-- ==== Sys2Proof/Word.lean ====
section
/-!
DEFINITION. The word types of the SB-2416's links and registers.

Both links carry 16-bit words whose bytes are addressed as high and low (chapter Frame Layouts, R219).
Travel is a wrapping 32-bit count (R5).
-/

namespace Sys2Proof

/-- One byte of a frame word. -/
abbrev Byte := BitVec 8

/-- One 16-bit frame word (R219). -/
abbrev Word16 := BitVec 16

/-- A travel value: the 32-bit, wrapping count of the advance mark's forward motion (R5). -/
abbrev Travel := BitVec 32

end Sys2Proof
end

