-- ==== Sys2Proof/Syntax.lean ====
section
/-!
DEFINITION. The commands of the SB-2416, one constructor per row of spec/opcode_table.json, and the frames of its links.

The table's rows are the part's steps, "each whole and indivisible" (spec/95_what_each_step_holds.md).
They are of four sorts:

* events on the input lines (ENCA and ENCB, ENCI, DROP0 to DROP15, MFS, MCLK, RHOLD, RSTN);
* points that the device itself reaches (a close point, a window end, a completed header word, ...);
* the execution of the frame at the head of the inbound queue, one row per kind and order;
* the acts of the R-link transmitter.

A row of the first two sorts names the line, station or lane it concerns, and carries the input levels that it samples.
A row of the third sort carries no operand of its own: its operands are the words of the frame that stands at the head
of the inbound queue (R183, R220), and the command takes them from there.
-/

namespace Sys2Proof

/-- A frame of either link: its words in the order sent, the header first and the check word last (R219). -/
abbrev Frame := List Word16

/-- A measurement station M0 to M3. -/
abbrev StationNo := Fin 4

/-- A lane L0 to L15. -/
abbrev LaneNo := Fin 16

/-- A pocket record of the ring, 0 to 127 (R26). -/
abbrev PocketNo := Fin 128

/-- The inbound frame kinds of R183. -/
inductive Kind where
  | filler | result | temp
  | bankHeader | binEntry | specialRoute | bankSwap
  | geometry | station | laneSetup | laneState | laneEmpty
  | runControl | maskControl | eventControl | tallyClear | lock | formatSelect
  | query
deriving DecidableEq, Repr

/-- The commands of the part, one for each row of the opcode table. -/
inductive Instr where
  /-- ENCODER_COUNT: the levels of ENCA and ENCB after the change, and PPS as it stands at the event (R1, R29). -/
  | encoderCount (enca encb pps : Bool)
  /-- INDEX_EVENT: a rising edge of ENCI, with PPS as it stands during the event (R14, R16, R29). -/
  | indexEvent (pps : Bool)
  /-- SLIP_MISSING_INDEX: travel has reached the missing-index point (R22). -/
  | slipMissingIndex
  /-- TRIGGER_END: travel has reached the end of a station's trigger pulse (R57). -/
  | triggerEnd (m : StationNo)
  /-- DEADLINE_EXPIRY: a record stands at a station's offset plus its deadline (R68). -/
  | deadlineExpiry (m : StationNo)
  /-- RUN_CLOSE: travel has reached the close of a lane's run (R148). -/
  | runClose (l : LaneNo)
  /-- REST_POINT: travel has reached an inactive lane's rest point (R148). -/
  | restPoint (l : LaneNo)
  /-- WINDOW_END: travel has reached the window end of a lane's oldest confirm entry (R158). -/
  | windowEnd (l : LaneNo)
  /-- DROP: a rising edge of a lane's DROP line (R156). -/
  | drop (l : LaneNo)
  /-- PENDING_NOTICE_ADMIT: the pending notice takes the place handed to it (R213). -/
  | pendingNoticeAdmit
  /-- FRAME_START: MFS asserts (R178). -/
  | frameStart
  /-- HEADER_RECEIVED: the completed header word is examined (R179). -/
  | headerReceived
  /-- MFS_DEASSERT: MFS deasserts (R178, R180). -/
  | mfsDeassert
  /-- FRAME_COMPLETE: the last declared bit has been sampled (R181). -/
  | frameComplete
  /-- FILLER: a FILLER frame is taken from the inbound queue (R183). -/
  | filler
  /-- RESULT: a RESULT frame is executed (R60). -/
  | result
  /-- TEMP: a TEMP frame is executed (R71). -/
  | temp
  /-- BANK_HEADER: a BANK-HEADER frame is executed (R97). -/
  | bankHeader
  /-- BIN_ENTRY: a BIN-ENTRY frame is executed (R98). -/
  | binEntry
  /-- SPECIAL_ROUTE: a SPECIAL-ROUTE frame is executed (R99). -/
  | specialRoute
  /-- BANK_SWAP: a BANK-SWAP frame is executed (R105). -/
  | bankSwap
  /-- GEOMETRY: a GEOMETRY frame is executed (R4). -/
  | geometry
  /-- STATION: a STATION frame is executed (R53). -/
  | station
  /-- LANE_SETUP: a LANE-SETUP frame is executed (R130). -/
  | laneSetup
  /-- LANE_STATE: a LANE-STATE frame is executed (R132). -/
  | laneState
  /-- LANE_EMPTY: a LANE-EMPTY frame is executed (R134). -/
  | laneEmpty
  /-- START: a RUN-CONTROL frame with the order START is executed (R188). -/
  | start
  /-- STOP: a RUN-CONTROL frame with the order STOP is executed (R190). -/
  | stop
  /-- PAUSE_LOAD: a RUN-CONTROL frame with the order PAUSE-LOAD is executed (R50). -/
  | pauseLoad
  /-- RESUME_LOAD: a RUN-CONTROL frame with the order RESUME-LOAD is executed (R50). -/
  | resumeLoad
  /-- RUN_RESET: a RUN-CONTROL frame with the order RUN-RESET is executed (R191). -/
  | runReset
  /-- FORCE: a MASK-CONTROL frame with the order FORCE is executed (R169). -/
  | force
  /-- RECOVER: a MASK-CONTROL frame with the order RECOVER is executed (R170). -/
  | recover
  /-- MODE: a MASK-CONTROL frame with the order MODE is executed (R171). -/
  | mode
  /-- ENABLE: an EVENT-CONTROL frame with the order ENABLE is executed (R215). -/
  | enable
  /-- CLEAR: an EVENT-CONTROL frame with the order CLEAR is executed (R216). -/
  | clear
  /-- TALLY_CLEAR: a TALLY-CLEAR frame is executed (R210). -/
  | tallyClear
  /-- LOCK: a LOCK frame is executed (R111). -/
  | lock
  /-- FORMAT_SELECT: a FORMAT-SELECT frame is executed (R207). -/
  | formatSelect
  /-- QUERY_STATUS: a QUERY frame with the selector STATUS is executed (R193). -/
  | queryStatus
  /-- QUERY_POCKET: a QUERY frame with the selector POCKET is executed (R194). -/
  | queryPocket
  /-- QUERY_BANK_ENTRY: a QUERY frame with the selector BANK-ENTRY is executed (R114). -/
  | queryBankEntry
  /-- QUERY_LANE: a QUERY frame with the selector LANE is executed (R136). -/
  | queryLane
  /-- QUERY_TALLY: a QUERY frame with the selector TALLY is executed (R195). -/
  | queryTally
  /-- QUERY_COUNTERS: a QUERY frame with the selector COUNTERS is executed (R196). -/
  | queryCounters
  /-- UNKNOWN_KIND: a frame of unknown kind code is taken from the inbound queue (R184). -/
  | unknownKind
  /-- TRANSMIT_START: the transmitter starts the head frame, with the level of RHOLD it samples (R201). -/
  | transmitStart (rhold : Bool)
  /-- RHOLD_ASSERT: RHOLD asserts (R202). -/
  | rholdAssert
  /-- TRANSMIT_COMPLETE: the last word of the head frame is sent (R203). -/
  | transmitComplete
  /-- FULL_RESET: RSTN has been low and is released, with the levels of ENCA, ENCB and MFS at the release (R24, R197). -/
  | fullReset (enca encb mfs : Bool)
  /-- MCLK_RISING_EDGE: a rising edge of MCLK with the level of MDAT it samples (R178). -/
  | mclkRisingEdge (mdat : Bool)
deriving DecidableEq, Repr

namespace Instr

/-- The kind of the frame that a command executes, for the commands that execute one of a known kind (R183). -/
def frameKind : Instr → Option Kind
  | encoderCount _ _ _ | indexEvent _ | slipMissingIndex | triggerEnd _ | deadlineExpiry _ | runClose _
  | restPoint _ | windowEnd _ | drop _ | pendingNoticeAdmit | frameStart | headerReceived | mfsDeassert
  | frameComplete | unknownKind | transmitStart _ | rholdAssert | transmitComplete | fullReset _ _ _
  | mclkRisingEdge _ => none
  | filler => some .filler
  | result => some .result
  | temp => some .temp
  | bankHeader => some .bankHeader
  | binEntry => some .binEntry
  | specialRoute => some .specialRoute
  | bankSwap => some .bankSwap
  | geometry => some .geometry
  | station => some .station
  | laneSetup => some .laneSetup
  | laneState => some .laneState
  | laneEmpty => some .laneEmpty
  | start | stop | pauseLoad | resumeLoad | runReset => some .runControl
  | force | recover | mode => some .maskControl
  | enable | clear => some .eventControl
  | tallyClear => some .tallyClear
  | lock => some .lock
  | formatSelect => some .formatSelect
  | queryStatus | queryPocket | queryBankEntry | queryLane | queryTally | queryCounters => some .query

end Instr

end Sys2Proof
end

