-- ==== Sys2Proof/Decode.lean ====
section
/-!
DEFINITION. The words of the opcode table. No row of the table gives its command any bits: the commands are events at
the lines, points of turret motion, and frames that the part has already received, none of which a word spells. (The
frames themselves do have words; their decoding is Machine/Operands.lean's, and the family files call it.)
-/

namespace Sys2Proof

/-- The command a word spells by the table's bits: none, since no row has bits. -/
def decodeTableWord (_nbits _w : Nat) : Option Instr := none

end Sys2Proof
end

