-- ==== Sys2Proof/Machine/State.lean ====
section
/-!
DEFINITION. The state of the SB-2416: plain data, holding every piece of state the manual gives its eleven blocks.

What the manual derives from other state is not stored a second time: the phase and the pocket at the load station,
LOADEN, the JET, MTRIG and RFS lines, a lane's FULL condition, room, a bank's completeness and draining are functions of
this state (Machine/Lines.lean, Machine/Ops.lean).
-/

namespace Sys2Proof.Machine

/-! ## The tracker -/

/-- The edge evaluation modes of R1. -/
inductive EdgeMode where
  | x1 | x2 | x4
deriving DecidableEq, Repr

/-- The geometry values of R3. -/
structure Geometry where
  /-- Pn, the pockets on the turret. -/
  pn : Nat
  /-- C, the counts per revolution after edge evaluation. -/
  c : Nat
  /-- The edge evaluation mode. -/
  mode : EdgeMode
  /-- H, the reverse hysteresis. -/
  h : Nat
  /-- Ti, the index tolerance. -/
  ti : Nat
  /-- The position the index pulse marks. -/
  indexOffset : Nat
  /-- The phase at which a load is sampled. -/
  loadPhase : Nat
  /-- The pocket offset of the dump. -/
  dumpOffset : Nat
deriving DecidableEq, Repr

/-- The tracker states of R13 to R15. -/
inductive TrackerState where
  | idle | homing | tracking
deriving DecidableEq, Repr

/-- The encoder front end and the tracker. -/
structure Tracker where
  /-- IDLE, HOMING or TRACKING. -/
  st : TrackerState
  /-- The position counter (R2). -/
  pos : Nat
  /-- The counts by which pos stands behind the advance mark (R5). -/
  lag : Nat
  /-- The travel of the advance mark since homing (R5). -/
  travel : Travel
  /-- The travel at which the mark last stood at the index offset (section 1.7). -/
  indexRef : Travel
  /-- The reverse detector: armed or disarmed (R12). -/
  armed : Bool
  /-- The quadrature reference: the last accepted level of ENCA (R1). -/
  quadA : Bool
  /-- The quadrature reference: the last accepted level of ENCB (R1). -/
  quadB : Bool
  /-- The position captured at the last index edge checked (R16). -/
  capture : Nat
deriving DecidableEq, Repr

/-! ## Pocket records -/

/-- The two bin-table banks. -/
inductive BankId where
  | a | b
deriving DecidableEq, Repr

/-- A route: a lane, or none (R92). -/
abbrev Route := Option LaneNo

/-- The contact status of a contact-type result (R61). -/
inductive ContactStatus where
  | ok | opened | shorted
deriving DecidableEq, Repr

/-- What an accepted reading-type result leaves in a slot (R62). -/
structure Reading where
  /-- The ratio reading N, 24 bits. -/
  n : BitVec 24
  /-- The range code 0 to 7. -/
  range : BitVec 3
  /-- The overload flag. -/
  overload : Bool
  /-- The copy of the station's held temperature, in sixteenths of a degree, or none. -/
  temp : Option Int
deriving DecidableEq, Repr

/-- A station slot of a pocket record (R27), with the sequence number it was issued with where one was (R60). -/
inductive Slot where
  | waiting
  | outstanding (seq : BitVec 8)
  | contact (seq : BitVec 8) (status : ContactStatus)
  | reading (seq : BitVec 8) (r : Reading)
  | expired (seq : Option (BitVec 8))
  | skipped
deriving DecidableEq, Repr

/-- A corrected deviation D in du with its flags (R75, R80, R81). -/
structure Deviation where
  d : Int
  clamped : Bool
  tnone : Bool
deriving DecidableEq, Repr

/-- A verdict (R75): the class, with the bin index and the deviation for the classes that carry them. -/
inductive Verdict where
  | bin (i : Fin 24) (d : Deviation)
  | out (d : Deviation)
  | contact
  | missing
  | invalid
  | unstable (d : Deviation)
deriving DecidableEq, Repr

/-- How a candidate lane was reached (R123). -/
inductive RouteKind where
  | direct | partner | overflow
deriving DecidableEq, Repr

/-- The target of a routed record (R26). -/
structure Target where
  lane : LaneNo
  kind : RouteKind
deriving DecidableEq, Repr

/-- The strand reasons of R26. -/
inductive StrandReason where
  | noRoute | noLane | masked | disabled | miss
deriving DecidableEq, Repr

/-- The states of a record that is not FREE (R26). The verdict is there from classification on, the target where a lane
was found, the reason in STRANDED: each field is present exactly where the life cycle of section 2.3 has written it. -/
inductive PartState where
  | await
  | routed (v : Verdict) (t : Target)
  | fired (v : Verdict) (t : Target)
  | stranded (v : Verdict) (t : Option Target) (why : StrandReason)
deriving DecidableEq, Repr

/-- A pocket record that is not FREE (R26). -/
structure Part where
  st : PartState
  /-- The load serial number, 1 to 4,294,967,295. -/
  serial : BitVec 32
  /-- The bound bank. -/
  bank : BankId
  /-- The generation of the bound bank at load. -/
  generation : BitVec 16
  /-- The lot code of the bound bank at load. -/
  lot : BitVec 32
  /-- The station slots; `none` for a station that had role NONE at load (R27). -/
  slots : Vector (Option Slot) 4
deriving DecidableEq, Repr

/-! ## The station sequencer -/

/-- The station roles of R54. -/
inductive Role where
  | none | contact | prec
deriving DecidableEq, Repr

/-- A station record (R52), with the state of its trigger line. -/
structure Station where
  role : Role
  offset : Nat
  trigPhase : Nat
  trigWidth : Nat
  /-- The deadline d, in pockets. -/
  deadline : Nat
  /-- The trim, in du. -/
  trim : Int
  /-- Skip-on-contact-fail. -/
  skip : Bool
  /-- The sequence counter: the number of the last trigger issued (R56). -/
  seq : BitVec 8
  /-- The held temperature, or none (R71). -/
  temp : Option Int
  /-- The sequence numbers of the last 8 expired slots, oldest first (R52, R68). -/
  expired : List (BitVec 8)
  /-- While MTRIG is active: the travel at which it returns inactive (R57). -/
  pulseEnd : Option Travel
deriving DecidableEq, Repr

/-! ## The bank store -/

/-- A set bin entry (R92). -/
structure BinEntry where
  lo : Int
  hi : Int
  route : Route
deriving DecidableEq, Repr

/-- What the write frames write and classification reads: a bank's table contents, with its LOADED state (R91). -/
structure Table where
  loaded : Bool
  lot : BitVec 32
  nexp : Nat
  range : BitVec 3
  tcr : Int
  /-- G, the guard band. -/
  guard : Nat
  /-- S, the stability limit. -/
  stability : Nat
  /-- nb, the number of bins searched. -/
  nb : Nat
  entries : Vector (Option BinEntry) 24
  routeOut : Route
  routeContact : Route
  routeMissing : Route
  routeInvalid : Route
  routeUnstable : Route
deriving DecidableEq, Repr

/-- One bank (R91). -/
structure Bank where
  table : Table
  generation : BitVec 16
  /-- The number of AWAIT records bound to the bank (R102). -/
  inUse : Nat
deriving DecidableEq, Repr

/-- The bank store: both banks, the live-bank selector, the generation counter and the lock. -/
structure BankStore where
  a : Bank
  b : Bank
  live : BankId
  generation : BitVec 16
  lock : Bool
deriving DecidableEq, Repr

/-! ## The lane router and the jet drivers -/

/-- The lane attributes of R118. -/
inductive LaneAttr where
  | opened | held | disabled
deriving DecidableEq, Repr

/-- A lane's setup: the partner (R116), the offset and the jet settings (R138). -/
structure LaneSetup where
  partner : Route
  offset : Nat
  firePhase : Nat
  /-- The pulse width w. -/
  width : Nat
  /-- The first-shot extension x. -/
  firstShot : Nat
  /-- The rest distance r. -/
  restDist : Nat
  /-- The tail trim t. -/
  tailTrim : Nat
  /-- Polarity ACTIVE-LOW. -/
  activeLow : Bool
  safeLow : Bool
  safeHigh : Bool
  /-- Confirm enable. -/
  confirm : Bool
  /-- The confirm window. -/
  window : Nat
deriving DecidableEq, Repr

/-- The run record of an ACTIVE lane output (R141). -/
structure Run where
  /-- F1, the travel of the fire that opened the run. -/
  first : Travel
  /-- Fn, the travel of the latest fire merged into it. -/
  last : Travel
  /-- The number of fires. -/
  fires : Nat
  /-- Whether the run was opened rested. -/
  rested : Bool
  /-- Tc, the close point of R145. -/
  closePoint : Travel
  /-- The travel whose advance closes the run: Tc, or the advance to which R149 moves the close. -/
  closeAt : Travel
deriving DecidableEq, Repr

/-- What an INACTIVE lane output holds of its rest (R141, R148). -/
inductive Rest where
  /-- Marked rested. -/
  | rested
  /-- The rest mark: the travel at which the line last left its active level; the rest point is r beyond it. -/
  | since (mark : Travel)
  /-- Neither mark nor rest point: the line stands active at its safe level (R152). -/
  | cleared
deriving DecidableEq, Repr

/-- A lane's output state (R141). -/
inductive Output where
  | inactive (rest : Rest)
  | active (run : Run)
deriving DecidableEq, Repr

/-- An entry of a confirm queue (R154). -/
structure ConfirmEntry where
  pocket : PocketNo
  /-- The travel of the fire. -/
  fire : Travel
  windowEnd : Travel
deriving DecidableEq, Repr

/-- A lane record with its jet driver (R116, R138, R141, R154). -/
structure Lane where
  attr : LaneAttr
  /-- 0 for unlimited. -/
  capacity : Nat
  delivered : Nat
  reserved : Nat
  setup : LaneSetup
  output : Output
  /-- The confirm queue, oldest first. -/
  queue : List ConfirmEntry
deriving DecidableEq, Repr

/-! ## The output mask controller -/

/-- The output mask controller (R163). -/
structure Mask where
  /-- MASKED. -/
  masked : Bool
  /-- The reason set: whether it holds SLIP. -/
  slip : Bool
  /-- The reason set: whether it holds REVERSE. -/
  reverse : Bool
  /-- The reason set: whether it holds FORCED. -/
  forced : Bool
  clean : Nat
  /-- The recovery mode is AUTO. -/
  auto : Bool
  /-- The recovery revolutions N. -/
  n : Nat
deriving DecidableEq, Repr

/-! ## The links -/

/-- The receiver states of R178. -/
inductive RxState where
  | waiting | receiving | trailing
deriving DecidableEq, Repr

/-- The M-link receiver (R178, R179). -/
structure Receiver where
  st : RxState
  wordCount : Nat
  bitCount : Nat
  /-- The running 16-bit sum of the completed words. -/
  sum : Word16
  /-- The bits of the word being assembled. -/
  shift : Word16
  /-- The declared length kept from an examined header; `none` until the header has been examined. -/
  declared : Option Nat
  /-- The completed words of the frame, in order. -/
  words : List Word16
deriving DecidableEq, Repr

/-- The reply statuses of section 9.6. -/
inductive Status where
  | ok | adjusted | busy | locked | badArg | incomplete | alreadySet | wrongState | badGeometry | unknownKind | badLength
deriving DecidableEq, Repr

/-- The outcomes of R44. -/
inductive OutcomeKind where
  | delivered | dumped | unsorted
deriving DecidableEq, Repr

/-- A PART report: the record as it stood at its outcome, with what R204 and R205 add to it. -/
structure PartReport where
  outcome : OutcomeKind
  pocket : PocketNo
  part : Part
  /-- PURGED: handed by a SLIP or STOP purge. -/
  purged : Bool
  /-- Built in format 2. -/
  formatTwo : Bool
  /-- The record's PREC slots, in order of station number. -/
  readings : List (StationNo × Slot)
deriving DecidableEq, Repr

/-- What a REPLY carries beside the tag and the kind (R185, R225). -/
structure Answer where
  status : Status
  detail : Byte := 0
  data : List Word16 := []
deriving DecidableEq, Repr

/-- A frame of the report queue (R198). Its words are given by `OutFrame.words` (Machine/Layout.lean). -/
inductive OutFrame where
  | part (r : PartReport)
  | reply (tag kind : Byte) (a : Answer)
  | event (flags : BitVec 14)
deriving DecidableEq, Repr

/-- The R-link transmitter (R201). -/
structure Transmitter where
  /-- SENDING; IDLE otherwise. -/
  sending : Bool
  /-- The words of the head frame already sent. -/
  sent : Nat
  /-- The bits already sent of the word that is being sent. -/
  bits : Nat
deriving DecidableEq, Repr

/-- The report queue (R198, R200, R206). -/
structure ReportQueue where
  /-- The queued frames, oldest first. -/
  queue : List OutFrame
  /-- A place is kept for the REPLY of the management frame at the head of the inbound queue (R185, R200). -/
  replyPlace : Bool
  /-- A freed place has been handed to the pending notice (R200, R203). -/
  noticePlace : Bool
  /-- The processor was stalled at the head frame when the present event began (R186, R200). -/
  stalled : Bool
  /-- PART format 2; format 1 otherwise. -/
  formatTwo : Bool
  /-- The FORMAT-SELECT mark. -/
  formatMark : Bool
deriving DecidableEq, Repr

/-- The event block (R212, R213); bit i of a set is the flag that R221 numbers i. -/
structure Events where
  flags : BitVec 14
  enables : BitVec 14
  /-- The pending mark: one notice waits for a place. -/
  noticePending : Bool
  /-- The pending notice began waiting before the frame at which the processor is stalled, if it is stalled (R200). -/
  noticeFirst : Bool
deriving DecidableEq, Repr

/-- The nine diagnostic counters of R196. -/
structure Counters where
  runt : Nat
  badSum : Nat
  overrun : Nat
  late : Nat
  duplicate : Nat
  unexpected : Nat
  stray : Nat
  ejectMiss : Nat
  reportDrop : Nat
deriving DecidableEq, Repr

/-- Input lines that are read as levels. -/
structure Pins where
  /-- PPS, as the last motion event brought it (R29). -/
  pps : Bool
  /-- MFS, asserted when high (R178). -/
  mfs : Bool
  /-- RHOLD, asserted when high (R201). -/
  rhold : Bool
deriving DecidableEq, Repr

/-! ## The state -/

/-- The state of the part: every piece the spec gives it, and the queue of the commands that wait. -/
structure State where
  /-- The geometry values (R3). -/
  geo : Geometry
  /-- The encoder front end and tracker (R1, R5, R13). -/
  trk : Tracker
  /-- The 128 pocket records; `none` is FREE, with serial 0 and every other field absent (R26, R45). -/
  ring : Vector (Option Part) 128
  /-- The serial counter (R31). -/
  serial : BitVec 32
  /-- The load pause (R50). -/
  loadPause : Bool
  /-- The four station records (R52). -/
  stations : Vector Station 4
  /-- The bank store (R91, R94, R111). -/
  banks : BankStore
  /-- The sixteen lane records with their jet drivers (R116, R138, R141). -/
  lanes : Vector Lane 16
  /-- The overflow designation (R117). -/
  overflow : Route
  /-- The output mask controller (R163). -/
  mask : Mask
  /-- The M-link receiver (R178). -/
  rx : Receiver
  /-- The inbound queue, oldest first (R182). -/
  inbound : List Frame
  /-- The R-link transmitter (R201). -/
  tx : Transmitter
  /-- The report queue with the PART format (R198, R206). -/
  report : ReportQueue
  /-- The tally table (R208). -/
  tally : Vector Nat 49
  /-- The event flags, enables and pending mark (R212, R213). -/
  events : Events
  /-- The diagnostic counters (R196). -/
  counters : Counters
  /-- The levels of the input lines PPS, MFS and RHOLD as last seen. -/
  pins : Pins
  /-- The model's own: how many free values have been read (log 5). -/
  choice : Nat
  /-- The model's own: the commands that wait, first in, first out (log 1). -/
  pending : List Instr
deriving DecidableEq, Repr

/-- The state with geo replaced. -/
def State.setGeo (s : State) (v : Geometry) : State := { s with geo := v }

/-- The state with trk replaced. -/
def State.setTrk (s : State) (v : Tracker) : State := { s with trk := v }

/-- The state with ring replaced. -/
def State.setRing (s : State) (v : Vector (Option Part) 128) : State := { s with ring := v }

/-- The state with serial replaced. -/
def State.setSerial (s : State) (v : BitVec 32) : State := { s with serial := v }

/-- The state with loadPause replaced. -/
def State.setLoadPause (s : State) (v : Bool) : State := { s with loadPause := v }

/-- The state with stations replaced. -/
def State.setStations (s : State) (v : Vector Station 4) : State := { s with stations := v }

/-- The state with banks replaced. -/
def State.setBanks (s : State) (v : BankStore) : State := { s with banks := v }

/-- The state with lanes replaced. -/
def State.setLanes (s : State) (v : Vector Lane 16) : State := { s with lanes := v }

/-- The state with overflow replaced. -/
def State.setOverflow (s : State) (v : Route) : State := { s with overflow := v }

/-- The state with mask replaced. -/
def State.setMask (s : State) (v : Mask) : State := { s with mask := v }

/-- The state with rx replaced. -/
def State.setRx (s : State) (v : Receiver) : State := { s with rx := v }

/-- The state with inbound replaced. -/
def State.setInbound (s : State) (v : List Frame) : State := { s with inbound := v }

/-- The state with tx replaced. -/
def State.setTx (s : State) (v : Transmitter) : State := { s with tx := v }

/-- The state with report replaced. -/
def State.setReport (s : State) (v : ReportQueue) : State := { s with report := v }

/-- The state with tally replaced. -/
def State.setTally (s : State) (v : Vector Nat 49) : State := { s with tally := v }

/-- The state with events replaced. -/
def State.setEvents (s : State) (v : Events) : State := { s with events := v }

/-- The state with counters replaced. -/
def State.setCounters (s : State) (v : Counters) : State := { s with counters := v }

/-- The state with pins replaced. -/
def State.setPins (s : State) (v : Pins) : State := { s with pins := v }

/-- The state with choice replaced. -/
def State.setChoice (s : State) (v : Nat) : State := { s with choice := v }

/-- The state with pending replaced. -/
def State.setPending (s : State) (v : List Instr) : State := { s with pending := v }

/-! ## Faults and refusals -/

/-- What stops the machine. The manual describes no condition that stops the part: a command whose event cannot occur
has no effect, and a frame that cannot be executed is answered (section 9.6). The type therefore has no constructor. -/
inductive Fault where
deriving DecidableEq, Repr

/-- Why a command has no meaning. -/
inductive Refusal where
  /-- Raised by an arm of `exec` for a row that is not modelled; no arm raises it now. Safe: the machine stops. -/
  | notModelled (mnemonic : String)
deriving DecidableEq, Repr

/-! ## Reset -/

/-- The default geometry of R3. -/
def Geometry.reset : Geometry :=
  { pn := 32, c := 4096, mode := .x4, h := 8, ti := 16, indexOffset := 64, loadPhase := 64, dumpOffset := 31 }

/-- The tracker at the release of RSTN (R24), for the sampled levels of ENCA and ENCB. -/
def Tracker.reset (enca encb : Bool) : Tracker :=
  { st := .idle, pos := 0, lag := 0, travel := 0, indexRef := 0, armed := true, quadA := enca, quadB := encb, capture := 0 }

/-- The full-reset column of R52. -/
def Station.reset : Station :=
  { role := .none, offset := 1, trigPhase := 0, trigWidth := 1, deadline := 1, trim := 0, skip := false, seq := 0,
    temp := none, expired := [], pulseEnd := none }

/-- The full-reset column of R91, table contents. -/
def Table.reset : Table :=
  { loaded := false, lot := 0, nexp := 0, range := 0, tcr := 0, guard := 0, stability := 0, nb := 0,
    entries := Vector.replicate 24 none, routeOut := none, routeContact := none, routeMissing := none,
    routeInvalid := none, routeUnstable := none }

/-- The full-reset column of R91. -/
def Bank.reset : Bank := { table := Table.reset, generation := 0, inUse := 0 }

/-- The bank store after full reset (R115). -/
def BankStore.reset : BankStore := { a := Bank.reset, b := Bank.reset, live := .a, generation := 0, lock := false }

/-- The full-reset column of R138, with the partner of R116. -/
def LaneSetup.reset : LaneSetup :=
  { partner := none, offset := 1, firePhase := 0, width := 1, firstShot := 0, restDist := 0, tailTrim := 0,
    activeLow := false, safeLow := false, safeHigh := false, confirm := false, window := 1 }

/-- A lane after full reset (R137, R162). -/
def Lane.reset : Lane :=
  { attr := .disabled, capacity := 0, delivered := 0, reserved := 0, setup := LaneSetup.reset,
    output := .inactive .rested, queue := [] }

/-- The full-reset column of R163. -/
def Mask.reset : Mask :=
  { masked := false, slip := false, reverse := false, forced := false, clean := 0, auto := true, n := 3 }

/-- The receiver at the release of RSTN (R197), for the sampled level of MFS. The counts, the sum and the shift register
have no stated value outside a frame; they are taken as 0 (log 3). -/
def Receiver.reset (mfs : Bool) : Receiver :=
  { st := if mfs then .trailing else .waiting, wordCount := 0, bitCount := 0, sum := 0, shift := 0, declared := none,
    words := [] }

/-- The diagnostic counters after full reset and run reset (R196). -/
def Counters.reset : Counters :=
  { runt := 0, badSum := 0, overrun := 0, late := 0, duplicate := 0, unexpected := 0, stray := 0, ejectMiss := 0,
    reportDrop := 0 }

/-- The report queue after full reset (R218). -/
def ReportQueue.reset : ReportQueue :=
  { queue := [], replyPlace := false, noticePlace := false, stalled := false, formatTwo := true, formatMark := false }

/-- The event block after full reset (R218). -/
def Events.reset : Events := { flags := 0, enables := 0, noticePending := false, noticeFirst := false }

/-- The transmitter after full reset (R218). -/
def Transmitter.reset : Transmitter := { sending := false, sent := 0, bits := 0 }

/-- The part at the release of RSTN with the sampled levels of ENCA, ENCB and MFS; no command waits. -/
def State.atRelease (enca encb mfs : Bool) : State :=
  { geo := Geometry.reset, trk := Tracker.reset enca encb, ring := Vector.replicate 128 none, serial := 1,
    loadPause := false, stations := Vector.replicate 4 Station.reset, banks := BankStore.reset,
    lanes := Vector.replicate 16 Lane.reset, overflow := none, mask := Mask.reset, rx := Receiver.reset mfs,
    inbound := [], tx := Transmitter.reset, report := ReportQueue.reset, tally := Vector.replicate 49 0,
    events := Events.reset, counters := Counters.reset, pins := { pps := false, mfs := mfs, rhold := false },
    choice := 0, pending := [] }

/-- The part right after full reset. ENCA, ENCB, MFS, PPS and RHOLD are taken as low at the release (log 2). -/
def State.reset : State := State.atRelease false false false

end Sys2Proof.Machine
end

