-- ==== Sys2Proof/Machine/Operands.lean ====
section
/-!
DEFINITION. The operand forms: how fields stand in the words of a frame (R219, R220) and how coded fields are encoded
(R221, R223). A decoding function answers `none` for a value that the encoding does not assign.
-/

namespace Sys2Proof.Machine

/-! ## Words and bytes (R219) -/

/-- The high byte of a word. -/
def hiByte (w : Word16) : Byte := w.extractLsb' 8 8

/-- The low byte of a word. -/
def loByte (w : Word16) : Byte := w.extractLsb' 0 8

/-- The word with the given high and low bytes. -/
def wordOf (hi lo : Byte) : Word16 := hi ++ lo

/-- The more significant word of a 32-bit field. -/
def hiWord (d : BitVec 32) : Word16 := d.extractLsb' 16 16

/-- The less significant word of a 32-bit field. -/
def loWord (d : BitVec 32) : Word16 := d.extractLsb' 0 16

/-- The two words of a 32-bit field, the more significant first (R219). -/
def words32 (d : BitVec 32) : List Word16 := [hiWord d, loWord d]

/-- The sum of words modulo 65,536 (R178, R181). -/
def wordSum (ws : List Word16) : Word16 := ws.foldl (· + ·) 0

/-- The frame of the given kind code and inner words, with its header and its check word (R219). -/
def frameOf (code : Byte) (inner : List Word16) : Frame :=
  let body := wordOf code (BitVec.ofNat 8 (inner.length + 2)) :: inner
  body ++ [0 - wordSum body]

/-! ## Fields of an inbound frame (R219, R220) -/

/-- Word i of a frame. -/
def word (f : Frame) (i : Nat) : Word16 := f.getD i 0

/-- The 32-bit field whose more significant word is word i. -/
def dword (f : Frame) (i : Nat) : BitVec 32 := word f i ++ word f (i + 1)

/-- The kind code: the high byte of the header. -/
def frameCode (f : Frame) : Byte := hiByte (word f 0)

/-- The declared length: the low byte of the header. -/
def declaredLength (f : Frame) : Nat := (loByte (word f 0)).toNat

/-- The request tag of a management frame: the high byte of w1, and 0 for a frame of declared length 2 (R184). -/
def frameTag (f : Frame) : Byte := if declaredLength f = 2 then 0 else hiByte (word f 1)

/-- The low byte of w1: the kind's first small field. -/
def firstArg (f : Frame) : Byte := loByte (word f 1)

/-! ## Kinds (R183, R220) -/

/-- The kind codes of R183. -/
def kindCode : Kind → Byte
  | .filler => 0x00
  | .result => 0x01
  | .temp => 0x02
  | .bankHeader => 0x10
  | .binEntry => 0x11
  | .specialRoute => 0x12
  | .bankSwap => 0x13
  | .geometry => 0x20
  | .station => 0x21
  | .laneSetup => 0x22
  | .laneState => 0x23
  | .laneEmpty => 0x24
  | .runControl => 0x30
  | .maskControl => 0x31
  | .eventControl => 0x32
  | .tallyClear => 0x33
  | .lock => 0x34
  | .formatSelect => 0x35
  | .query => 0x38

/-- The required length of a kind (R220); FILLER has none. -/
def kindLength : Kind → Option Nat
  | .filler => none
  | .result => some 6
  | .temp => some 4
  | .bankHeader => some 12
  | .binEntry => some 8
  | .specialRoute => some 4
  | .bankSwap => some 3
  | .geometry => some 10
  | .station => some 9
  | .laneSetup => some 11
  | .laneState => some 5
  | .laneEmpty => some 3
  | .runControl => some 3
  | .maskControl => some 4
  | .eventControl => some 4
  | .tallyClear => some 3
  | .lock => some 3
  | .formatSelect => some 3
  | .query => some 5

/-- The inbound kinds in the order of R183. -/
def allKinds : List Kind :=
  [.filler, .result, .temp, .bankHeader, .binEntry, .specialRoute, .bankSwap, .geometry, .station, .laneSetup,
   .laneState, .laneEmpty, .runControl, .maskControl, .eventControl, .tallyClear, .lock, .formatSelect, .query]

/-- The kind a code stands for; `none` for an unknown code (R184). -/
def kindOf (code : Byte) : Option Kind := allKinds.find? (fun k => kindCode k == code)

/-- A management kind: one that is answered by a REPLY (R183). -/
def isManagement : Kind → Bool
  | .filler | .result | .temp => false
  | _ => true

/-- The frame has the required length of the kind (R184). -/
def lengthFits (k : Kind) (f : Frame) : Bool := kindLength k == some (declaredLength f)

/-! ## Orders and selectors (R221) -/

/-- The RUN-CONTROL orders. -/
inductive RunOrder where
  | start | stop | pauseLoad | resumeLoad | runReset
deriving DecidableEq, Repr

/-- The order a RUN-CONTROL order byte stands for. -/
def runOrderOf (c : Byte) : Option RunOrder :=
  if c = 1 then some .start else if c = 2 then some .stop else if c = 3 then some .pauseLoad
  else if c = 4 then some .resumeLoad else if c = 5 then some .runReset else none

/-- The MASK-CONTROL orders. -/
inductive MaskOrder where
  | force | recover | mode
deriving DecidableEq, Repr

/-- The order a MASK-CONTROL order byte stands for. -/
def maskOrderOf (c : Byte) : Option MaskOrder :=
  if c = 1 then some .force else if c = 2 then some .recover else if c = 3 then some .mode else none

/-- The EVENT-CONTROL orders. -/
inductive EventOrder where
  | enable | clear
deriving DecidableEq, Repr

/-- The order an EVENT-CONTROL order byte stands for. -/
def eventOrderOf (c : Byte) : Option EventOrder :=
  if c = 1 then some .enable else if c = 2 then some .clear else none

/-- The QUERY selectors. -/
inductive Selector where
  | status | pocket | bankEntry | lane | tally | counters
deriving DecidableEq, Repr

/-- The selector a QUERY selector byte stands for. -/
def selectorOf (c : Byte) : Option Selector :=
  if c = 1 then some .status else if c = 2 then some .pocket else if c = 3 then some .bankEntry
  else if c = 4 then some .lane else if c = 5 then some .tally else if c = 6 then some .counters else none

/-- A RUN-RESET frame: the one management frame that does not wait for room in the report queue (R191). -/
def isRunReset (f : Frame) : Bool :=
  frameCode f == kindCode .runControl && lengthFits .runControl f && runOrderOf (firstArg f) == some .runReset

/-- The frame needs a place in the report queue before it is begun: a management frame other than a RUN-RESET, or a frame
of unknown kind with length 3 or more (R186, R191). -/
def waitsForPlace (f : Frame) : Bool :=
  match kindOf (frameCode f) with
  | some k => isManagement k && !isRunReset f
  | none => 3 ≤ declaredLength f

/-! ## Other coded fields of inbound frames (R221) -/

/-- A station number byte. -/
def stationOf (c : Byte) : Option StationNo := if h : c.toNat < 4 then some ⟨c.toNat, h⟩ else none

/-- A lane number byte. -/
def laneOf (c : Byte) : Option LaneNo := if h : c.toNat < 16 then some ⟨c.toNat, h⟩ else none

/-- A route or partner byte: a lane, or FF for none. -/
def routeOf (c : Byte) : Option Route :=
  match laneOf c with
  | some l => some (some l)
  | none => if c = 0xFF then some none else none

/-- A station role byte. -/
def roleOf (c : Byte) : Option Role :=
  if c = 0 then some .none else if c = 1 then some .contact else if c = 2 then some .prec else none

/-- An edge mode byte. -/
def edgeModeOf (c : Byte) : Option EdgeMode :=
  if c = 1 then some .x1 else if c = 2 then some .x2 else if c = 4 then some .x4 else none

/-- A contact status byte. -/
def contactStatusOf (c : Byte) : Option ContactStatus :=
  if c = 0 then some .ok else if c = 1 then some .opened else if c = 2 then some .shorted else none

/-- A lane attribute byte. -/
def laneAttrOf (c : Byte) : Option LaneAttr :=
  if c = 0 then some .opened else if c = 1 then some .held else if c = 2 then some .disabled else none

/-- The overflow actions of R131. -/
inductive OverflowAction where
  | keep | designate | release
deriving DecidableEq, Repr

/-- An overflow action byte. -/
def overflowActionOf (c : Byte) : Option OverflowAction :=
  if c = 0 then some .keep else if c = 1 then some .designate else if c = 2 then some .release else none

/-- A recovery mode byte: whether it is AUTO. -/
def recoveryAutoOf (c : Byte) : Option Bool := if c = 0 then some true else if c = 1 then some false else none

/-- The classes that have a special route (R93). -/
inductive SpecialClass where
  | out | contact | missing | invalid | unstable
deriving DecidableEq, Repr

/-- A class byte of SPECIAL-ROUTE: one of the five special classes. -/
def specialClassOf (c : Byte) : Option SpecialClass :=
  if c = 1 then some .out else if c = 2 then some .contact else if c = 3 then some .missing
  else if c = 4 then some .invalid else if c = 5 then some .unstable else none

/-- A bank argument word. -/
def bankOf (w : Word16) : Option BankId := if w = 0 then some .a else if w = 1 then some .b else none

/-- A flag set word: `none` where bit 15 or 14 is set, which name no flag (R221, R223). -/
def flagSetOf (w : Word16) : Option (BitVec 14) :=
  if w.extractLsb' 14 2 = 0 then some (w.extractLsb' 0 14) else none

/-! ## Codes of outbound fields (R221, R224) -/

/-- The absent encoding of a byte field (R224). -/
def absentByte : Byte := 0xFF

/-- The absent encoding of D: −2,147,483,648 (R224). -/
def absentD : BitVec 32 := 0x80000000

/-- The absent encoding of a temperature copy: −32,768 (R224). -/
def absentTemp : Word16 := 0x8000

def laneByte (l : LaneNo) : Byte := BitVec.ofNat 8 l.val

def routeByte : Route → Byte
  | some l => laneByte l
  | none => 0xFF

def bankByte : BankId → Byte
  | .a => 0
  | .b => 1

def classByte : Verdict → Byte
  | .bin _ _ => 0
  | .out _ => 1
  | .contact => 2
  | .missing => 3
  | .invalid => 4
  | .unstable _ => 5

def outcomeByte : OutcomeKind → Byte
  | .delivered => 0
  | .dumped => 1
  | .unsorted => 2

def routeKindByte : RouteKind → Byte
  | .direct => 0
  | .partner => 1
  | .overflow => 2

def strandByte : StrandReason → Byte
  | .noRoute => 0
  | .noLane => 1
  | .masked => 2
  | .disabled => 3
  | .miss => 4

def partStateByte : PartState → Byte
  | .await => 1
  | .routed _ _ => 2
  | .fired _ _ => 3
  | .stranded _ _ _ => 4

def slotStateByte : Slot → Byte
  | .waiting => 0
  | .outstanding _ => 1
  | .contact _ _ | .reading _ _ => 2
  | .expired _ => 3
  | .skipped => 4

def contactStatusByte : ContactStatus → Byte
  | .ok => 0
  | .opened => 1
  | .shorted => 2

def laneAttrByte : LaneAttr → Byte
  | .opened => 0
  | .held => 1
  | .disabled => 2

def trackerStateByte : TrackerState → Byte
  | .idle => 0
  | .homing => 1
  | .tracking => 2

def statusByte : Status → Byte
  | .ok => 0x00
  | .adjusted => 0x01
  | .busy => 0x02
  | .locked => 0x03
  | .badArg => 0x04
  | .incomplete => 0x05
  | .alreadySet => 0x06
  | .wrongState => 0x07
  | .badGeometry => 0x08
  | .unknownKind => 0x09
  | .badLength => 0x0A

/-- A set bit at position i of a byte, where the condition holds. -/
def bitAt (i : Nat) (b : Bool) : Byte := if b then BitVec.ofNat 8 (2 ^ i) else 0

end Sys2Proof.Machine
end

