-- ==== Sys2Proof/Machine/Deviation.lean ====
section
/-!
DEFINITION. The deviation unit and the class decision (R74 to R90), over integers as the manual has them.

The deviation unit holds no lasting state (R74): everything here is a function of a record's slots, the station records
and the bound bank's table.
-/

namespace Sys2Proof.Machine

/-- The quotient rounded half away from zero (R76). -/
def roundHalfAway (a : Int) (b : Nat) : Int := a.sign * ((2 * a.natAbs + b) / (2 * b) : Nat)

/-- A received reading is valid against a table (R77). -/
def readingValid (tb : Table) (r : Reading) : Bool :=
  !r.overload && r.range == tb.range && r.n.toNat ≤ 8388606

/-- Stage 1: the raw deviation D1 (R78). -/
def rawDeviation (n : Int) (nexp : Nat) : Int := roundHalfAway ((n - nexp) * 10000000) nexp

/-- Stage 3's temperature correction for a copy T; none is taken as 400 (R80). -/
def tempCorrection (tcr : Int) (temp : Option Int) : Int := roundHalfAway (tcr * (temp.getD 400 - 400)) 16

/-- Stage 4's clamp (R81). -/
def clampD (d : Int) : Int := max (-10000000) (min d 10000000)

/-- The four stages for one valid reading, with the trim of its station (R78 to R81). -/
def deviationOf (tb : Table) (trim : Int) (r : Reading) : Deviation :=
  let d2 := rawDeviation r.n.toNat tb.nexp + trim
  let d3 := d2 - tempCorrection tb.tcr r.temp
  { d := clampD d3, clamped := clampD d3 != d3, tnone := r.temp.isNone }

/-- D from the deviations of a record's PREC slots, in station order (R82, R84). A record has one or two PREC slots (R27);
the empty list is there for totality. -/
def combine : List Deviation → Deviation
  | [] => { d := 0, clamped := false, tnone := false }
  | [x] => x
  | x :: y :: _ =>
    { d := roundHalfAway (x.d + y.d) 2, clamped := x.clamped || y.clamped, tnone := x.tnone || y.tnone }

/-- The stability test fails: two readings, S above 0, and the clamped values differ by more than S (R83). -/
def unstablePair (tb : Table) : List Deviation → Bool
  | x :: y :: _ => 0 < tb.stability && tb.stability < (x.d - y.d).natAbs
  | _ => false

/-- The window of a set bin holds D (R88). -/
def windowHolds (tb : Table) (d : Int) (e : BinEntry) : Bool := e.lo + tb.guard ≤ d && d ≤ e.hi - tb.guard

/-- The bin at an index is searched, set, and its window holds D. -/
def binHolds (tb : Table) (d : Int) (i : Fin 24) : Bool :=
  i.val < tb.nb && (match tb.entries[i] with | some e => windowHolds tb d e | none => false)

/-- The bin indexes in table order. -/
def allBins : List (Fin 24) :=
  [0, 1, 2, 3, 4, 5, 6, 7, 8, 9, 10, 11, 12, 13, 14, 15, 16, 17, 18, 19, 20, 21, 22, 23]

/-- The bin search: the first bin below nb whose window holds D (R88). -/
def binSearch (tb : Table) (d : Int) : Option (Fin 24) := allBins.find? (binHolds tb d)

/-- The stations in order of number. -/
def allStations : List StationNo := [0, 1, 2, 3]

/-- The slots of a record in order of station number, with their stations. -/
def slotList (slots : Vector (Option Slot) 4) : List (StationNo × Slot) :=
  allStations.filterMap fun m => (slots[m]).map fun x => (m, x)

/-- A slot that holds a recorded contact failure: RECEIVED(OPEN) or RECEIVED(SHORT). -/
def isContactFailure : Slot → Bool
  | .contact _ .opened | .contact _ .shorted => true
  | _ => false

/-- A slot that is EXPIRED. -/
def isExpired : Slot → Bool
  | .expired _ => true
  | _ => false

/-- A slot that is resolved: RECEIVED, EXPIRED or SKIPPED (R27). -/
def isResolved : Slot → Bool
  | .waiting | .outstanding _ => false
  | _ => true

/-- A record holds a CONTACT failure. -/
def contactFailed (slots : Vector (Option Slot) 4) : Bool := (slotList slots).any fun x => isContactFailure x.2

/-- Every slot of a record is resolved. -/
def allResolved (slots : Vector (Option Slot) 4) : Bool := (slotList slots).all fun x => isResolved x.2

/-- The readings of a record's received PREC slots with their stations' trims, in station order. -/
def readingsWithTrim (stations : Vector Station 4) (slots : Vector (Option Slot) 4) : List (Int × Reading) :=
  (slotList slots).filterMap fun x => match x.2 with
    | .reading _ r => some (stations[x.1].trim, r)
    | _ => none

/-- The class decision of R85 with the D, the flags and the bin index of R75 and R86. -/
def decideVerdict (tb : Table) (stations : Vector Station 4) (slots : Vector (Option Slot) 4) : Verdict :=
  if contactFailed slots then .contact
  else if (slotList slots).any fun x => isExpired x.2 then .missing
  else
    let rs := readingsWithTrim stations slots
    if rs.any fun x => !readingValid tb x.2 then .invalid
    else
      let ds := rs.map fun x => deviationOf tb x.1 x.2
      let dev := combine ds
      if unstablePair tb ds then .unstable dev
      else match binSearch tb dev.d with
        | some i => .bin i dev
        | none => .out dev

/-- The route handed for a verdict (R109). -/
def routeFor (tb : Table) : Verdict → Route
  | .bin i _ => (tb.entries[i]).bind (·.route)
  | .out _ => tb.routeOut
  | .contact => tb.routeContact
  | .missing => tb.routeMissing
  | .invalid => tb.routeInvalid
  | .unstable _ => tb.routeUnstable

/-- A LOADED bank's table is complete: every entry below nb is set (R95). -/
def tableComplete (tb : Table) : Bool :=
  tb.loaded && allBins.all fun i => tb.nb ≤ i.val || (tb.entries[i]).isSome

end Sys2Proof.Machine
end

