-- ==== Sys2Proof/Config.lean ====
section
/-!
DEFINITION. What the part fixes, and what its manual leaves open.

The three queue sizes are the manual's. The opaque constants are free values: nothing constrains them, so that a
statement about a machine that reads one holds whatever it is. The machine applies each of them to a counter of its
State (`State.choice`) that it then advances, so that no two reads are tied together.
-/

namespace Sys2Proof.Config

/-- The inbound queue holds 8 frames (R182). -/
def inboundPlaces : Nat := 8

/-- The report queue holds 32 frames (R198). -/
def reportPlaces : Nat := 32

/-- A PART frame is admitted while the fill is below 28 (R198). -/
def partAllowance : Nat := 28

/-- Whether the deadlines of a pitch event are taken before that event's pass check and departure, where both fall on it
and touch the same records or lanes. R41 and R129 give the outcome of either order and prefer none (log 6). -/
opaque deadlinesFirst : Nat → Bool

/-- The generation word of a POCKET reply for a FREE record: absent, with no encoding for absence (log 7). -/
opaque absentGeneration : Nat → BitVec 16

/-- The lot code words of a POCKET reply for a FREE record: absent, with no encoding for absence (log 7). -/
opaque absentLot : Nat → BitVec 32

/-- The lower-limit words of a BANK-ENTRY reply for an UNSET entry, which holds no limit (log 8). -/
opaque unsetLow : Nat → BitVec 32

/-- The upper-limit words of a BANK-ENTRY reply for an UNSET entry, which holds no limit (log 8). -/
opaque unsetHigh : Nat → BitVec 32

/-- The overload flag of a POCKET slot reply for a received CONTACT slot, which holds no reading (log 9). -/
opaque contactOverload : Nat → Bool

/-- The range code of a POCKET slot reply for a received CONTACT slot, which holds no reading (log 9). -/
opaque contactRange : Nat → BitVec 3

/-- The reading of a POCKET slot reply for a received CONTACT slot, which holds no reading (log 9). -/
opaque contactReading : Nat → BitVec 24

/-- The sequence number byte of a POCKET slot reply for a slot that no number was issued to (log 31). -/
opaque unissuedNumber : Nat → BitVec 8

end Sys2Proof.Config
end

