-- ==== Sys2Proof/Machine/Flags.lean ====
section
/-!
DEFINITION. The event flags with their notices (R212, R213), the report queue's admission and places (R185, R198 to R200),
the diagnostic counters (R196) and the tally counts (R208, R209).
-/

namespace Sys2Proof.Machine

/-- One more, and no more than the largest value of a saturating counter (R196, R209). -/
def satInc (top n : Nat) : Nat := if n < top then n + 1 else n

/-! ## Flags -/

/-- The fourteen event flags of R212. -/
inductive Flag where
  | slip | reverse | maskEnter | maskExit | laneFull | overrun | runt | badSum | late | missing | stray | ejectMiss
  | lockViolation | reportDrop
deriving DecidableEq, Repr

/-- The bit of a flag in a flag set (R221). -/
def flagBit : Flag → Nat
  | .slip => 0
  | .reverse => 1
  | .maskEnter => 2
  | .maskExit => 3
  | .laneFull => 4
  | .overrun => 5
  | .runt => 6
  | .badSum => 7
  | .late => 8
  | .missing => 9
  | .stray => 10
  | .ejectMiss => 11
  | .lockViolation => 12
  | .reportDrop => 13

/-- The flag set that names one flag. -/
def flagSet (f : Flag) : BitVec 14 := BitVec.ofNat 14 (2 ^ flagBit f)

/-! ## Places in the report queue -/

/-- The fill of R198: the frames in the queue, the place kept for a REPLY, and the place handed to the pending notice. -/
def fill (s : State) : Nat :=
  s.report.queue.length + s.report.replyPlace.toNat + s.report.noticePlace.toNat

/-- The frame at the head of the inbound queue needs a place for its REPLY and has not been given one. -/
def headNeedsPlace (s : State) : Bool :=
  match s.inbound with
  | [] => false
  | f :: _ => waitsForPlace f && !s.report.replyPlace

/-- The processor is stalled: the head frame needs a place and the fill is 32 (R186). -/
def stalled (s : State) : Bool := headNeedsPlace s && Config.reportPlaces ≤ fill s

/-- The pending notice takes the place handed to it: it is admitted with the flags as they stand, and the mark is
cleared (R213). -/
def admitHanded (s : State) : State :=
  if s.report.noticePlace then
    (s.setReport { s.report with queue := s.report.queue ++ [.event s.events.flags], noticePlace := false }).setEvents
      { s.events with noticePending := false }
  else s

/-- How every event of the report queue or the event block begins: the notice to which the event before handed a place has
been admitted in that event (R213), and the processor is stalled if the head frame waits at a fill of 32 (R186). No event
comes between the handing and the admission, so the notice carries the flags as they stood at the handing (log 17). -/
def opened (s : State) : State :=
  let t := admitHanded s
  t.setReport { t.report with stalled := stalled t }

/-- A frame joins the tail of the queue (R198). -/
def enqueue (f : OutFrame) (s : State) : State := s.setReport { s.report with queue := s.report.queue ++ [f] }

/-- The event block offers a notice at an enabled clear-to-set change (R213). A notice that becomes pending began to wait
before the head frame unless the processor was stalled at it when the event began: the stall of a frame that finds the
fill at 32 begins after the event that brought it there (R200; log 17). -/
def offerNotice (s : State) : State :=
  if fill s < Config.reportPlaces then enqueue (.event s.events.flags) s
  else if s.events.noticePending then s
  else s.setEvents { s.events with noticePending := true, noticeFirst := !s.report.stalled }

/-- A block has a flag set (R212): a clear-to-set change of a flag whose enable is set offers a notice (R213). -/
def raise (f : Flag) (s : State) : State :=
  if s.events.flags &&& flagSet f = 0 then
    let t := s.setEvents { s.events with flags := s.events.flags ||| flagSet f }
    if s.events.enables &&& flagSet f = 0 then t else offerNotice t
  else s

/-! ## Diagnostic counters (R196) -/

def countRunt (s : State) : State := s.setCounters { s.counters with runt := satInc 65535 s.counters.runt }

def countBadSum (s : State) : State := s.setCounters { s.counters with badSum := satInc 65535 s.counters.badSum }

def countOverrun (s : State) : State := s.setCounters { s.counters with overrun := satInc 65535 s.counters.overrun }

def countLate (s : State) : State := s.setCounters { s.counters with late := satInc 65535 s.counters.late }

def countDuplicate (s : State) : State :=
  s.setCounters { s.counters with duplicate := satInc 65535 s.counters.duplicate }

def countUnexpected (s : State) : State :=
  s.setCounters { s.counters with unexpected := satInc 65535 s.counters.unexpected }

def countStray (s : State) : State := s.setCounters { s.counters with stray := satInc 65535 s.counters.stray }

def countEjectMiss (s : State) : State :=
  s.setCounters { s.counters with ejectMiss := satInc 65535 s.counters.ejectMiss }

def countReportDrop (s : State) : State :=
  s.setCounters { s.counters with reportDrop := satInc 65535 s.counters.reportDrop }

/-! ## The tally (R208) -/

/-- One tally count rises by one, and stays at 4,294,967,295 (R209). -/
def tallyCount (i : Fin 49) (s : State) : State :=
  s.setTally (s.tally.set i (satInc 4294967295 s.tally[i]))

/-- The entries of R208. -/
def tallyLoaded : Fin 49 := 45
def tallyDelivered : Fin 49 := 46
def tallyDumped : Fin 49 := 47
def tallyUnsorted : Fin 49 := 48

/-- The per-lane delivered entry of a lane: 29 to 44. -/
def tallyLane (l : LaneNo) : Fin 49 := ⟨29 + l.val, by omega⟩

/-- The class entry of a verdict: 0 to 28. -/
def tallyClass : Verdict → Fin 49
  | .bin i _ => ⟨i.val, by omega⟩
  | .out _ => 24
  | .contact => 25
  | .missing => 26
  | .invalid => 27
  | .unstable _ => 28

/-! ## PART reports and REPLY frames -/

/-- The pocket ring hands a PART report: admitted while the fill is below 28, and dropped, counted and flagged
otherwise (R198, R199). -/
def handReport (r : PartReport) (s : State) : State :=
  if fill s < Config.partAllowance then enqueue (.part r) s else raise .reportDrop (countReportDrop s)

/-- There is a place for the head frame's REPLY: one was handed to it after a stall (R200), or the fill is below 32. -/
def placeForReply (s : State) : Bool := s.report.replyPlace || fill s < Config.reportPlaces

/-- The processor keeps a place for the REPLY of the frame it begins (R186). -/
def keepPlace (s : State) : State := s.setReport { s.report with replyPlace := true }

/-- The head frame leaves the inbound queue (R182, R183). -/
def dropHead (s : State) : State := s.setInbound s.inbound.tail

/-- The REPLY joins the queue in the place kept for it, with the frame's tag and its kind code as received (R185). A
notice still pending has now waited longer than any frame behind this one (R200). -/
def placeReply (f : Frame) (a : Answer) (s : State) : State :=
  let t := enqueue (.reply (frameTag f) (frameCode f) a) s
  (t.setReport { t.report with replyPlace := false }).setEvents { t.events with noticeFirst := true }

end Sys2Proof.Machine
end

