-- ==== Sys2Proof/Machine/Ops.lean ====
section
/-!
DEFINITION. The operations that the commands share: positions and offsets (R8, R28), the lanes' counts and outputs
(R120 to R129, R140 to R153), a record's classification, delivery, departure and purge (R33 to R48), the mask (R164 to R168),
and the tracker's advance and SLIP (R6, R9, R10, R18, R20).
-/

namespace Sys2Proof.Machine

/-- The lanes in order of number. -/
def allLanes : List LaneNo := [0, 1, 2, 3, 4, 5, 6, 7, 8, 9, 10, 11, 12, 13, 14, 15]

/-! ## One element of a bank of like things -/

/-- Replace one lane record. -/
def modLane (l : LaneNo) (g : Lane → Lane) (s : State) : State := s.setLanes (s.lanes.set l (g s.lanes[l]))

/-- Replace every lane record. -/
def mapLanes (g : Lane → Lane) (s : State) : State := s.setLanes (s.lanes.map g)

/-- Replace one station record. -/
def modStation (m : StationNo) (g : Station → Station) (s : State) : State :=
  s.setStations (s.stations.set m (g s.stations[m]))

/-- Replace one pocket record; `none` frees it (R45). -/
def setRecord (k : PocketNo) (r : Option Part) (s : State) : State := s.setRing (s.ring.set k r)

/-- The bank a letter names. -/
def bankAt (bs : BankStore) : BankId → Bank
  | .a => bs.a
  | .b => bs.b

/-- Replace one bank. -/
def modBank (id : BankId) (g : Bank → Bank) (s : State) : State :=
  match id with
  | .a => s.setBanks { s.banks with a := g s.banks.a }
  | .b => s.setBanks { s.banks with b := g s.banks.b }

/-- The bank that is not live: STAGING (R94). -/
def stagingId (bs : BankStore) : BankId :=
  match bs.live with
  | .a => .b
  | .b => .a

/-! ## Positions (R5, R8, R28) -/

/-- The pitch p = C / Pn. -/
def pitch (g : Geometry) : Nat := g.c / g.pn

/-- The mark position: pos plus lag modulo C (R5). -/
def markPos (s : State) : Nat := (s.trk.pos + s.trk.lag) % s.geo.c

/-- The phase of the mark position (R8). -/
def phase (s : State) : Nat := markPos s % pitch s.geo

/-- The pocket at the load station: the number of the pitch the mark position lies in (R8). -/
def loadPocket (s : State) : Nat := markPos s / pitch s.geo

/-- The pocket at an offset from the load station, for a given pocket at the load station (R10). -/
def pocketFrom (g : Geometry) (load e : Nat) : PocketNo := Fin.ofNat 128 ((load + g.pn - e) % g.pn)

/-- The pocket that stands at an offset now (R10, R28). -/
def pocketAt (s : State) (e : Nat) : PocketNo := pocketFrom s.geo (loadPocket s) e

/-- The tracker is TRACKING. -/
def isTracking (s : State) : Bool := s.trk.st == .tracking

/-! ## Lanes -/

/-- The active level of a lane's line: high for ACTIVE-HIGH (R140). -/
def activeLevel (u : LaneSetup) : Bool := !u.activeLow

/-- The inactive level of a lane's line (R140). -/
def inactiveLevel (u : LaneSetup) : Bool := u.activeLow

/-- The safe level: SAFE-LOW before SAFE-HIGH, and the inactive level where neither is set (R140). -/
def safeLevel (u : LaneSetup) : Bool := if u.safeLow then false else if u.safeHigh then true else inactiveLevel u

/-- The lane's safe level is its active level. -/
def safeIsActive (u : LaneSetup) : Bool := safeLevel u == activeLevel u

/-- FULL (R121). -/
def laneFull (L : Lane) : Bool := 0 < L.capacity && L.delivered + L.reserved == L.capacity

/-- The lane has room (R120). -/
def hasRoom (L : Lane) : Bool :=
  L.attr == .opened && (L.capacity == 0 || L.delivered + L.reserved < L.capacity)

/-- A release lowers the reserved count by one (R129). -/
def releaseOn (L : Lane) : Lane := { L with reserved := L.reserved - 1 }

/-- A delivery moves one from reserved to delivered, which saturates (R122, R128). -/
def deliverOn (L : Lane) : Lane := { L with reserved := L.reserved - 1, delivered := satInc 65535 L.delivered }

/-- A reservation raises the reserved count by one (R123). -/
def reserveOn (L : Lane) : Lane := { L with reserved := L.reserved + 1 }

/-- The rest of a line that leaves its active level at a travel: the rest mark is set there, and with a rest distance of 0
the rest point is reached at once (R148). -/
def restFrom (u : LaneSetup) (t : Travel) : Rest := if u.restDist = 0 then .rested else .since t

/-- A fire at travel F finds the lane rested (R144). -/
def isRested (u : LaneSetup) (f : Travel) : Rest → Bool
  | .rested => true
  | .since mark => u.restDist ≤ (f - mark).toNat
  | .cleared => false

/-- The close point of R145 after a fire: the greatest of F1 + w (+ x), Fn + w (− t) and Fn + 1, measured from F1. -/
def closePointOf (u : LaneSetup) (first last : Travel) (fires : Nat) (rested : Bool) : Travel :=
  let sinceFirst := (last - first).toNat
  let a := u.width + (if rested then u.firstShot else 0)
  let b := sinceFirst + u.width - (if 2 ≤ fires then u.tailTrim else 0)
  first + BitVec.ofNat 32 (max a (max b (sinceFirst + 1)))

/-- A point at travel t after travel f falls at or before the end of a re-alignment's span (R57, R149). -/
def withinSpan (f t spanEnd : Travel) : Bool := (t - f).toNat ≤ (spanEnd - f).toNat

/-- The travel at which a point scheduled at t, by an act at f, is taken: a point inside the span of the forward
re-alignment that took the act moves to the first advance after it (R57, R149). -/
def movedPast (spanEnd : Option Travel) (f t : Travel) : Travel :=
  match spanEnd with
  | none => t
  | some e => if withinSpan f t e then e + 1 else t

/-- What a taken fire at travel F does to the output: it opens a run (R144) or merges into the one in progress (R146). -/
def fireOutput (spanEnd : Option Travel) (f : Travel) (L : Lane) : Lane :=
  match L.output with
  | .inactive rest =>
    let rested := isRested L.setup f rest
    let tc := closePointOf L.setup f f 1 rested
    { L with output := .active { first := f, last := f, fires := 1, rested := rested, closePoint := tc,
                                 closeAt := movedPast spanEnd f tc } }
  | .active run =>
    let tc := closePointOf L.setup run.first f (run.fires + 1) run.rested
    { L with output := .active { run with last := f, fires := run.fires + 1, closePoint := tc, closeAt := tc } }

/-- The mask's entry at a lane in TRACKING: a run is cut, and the rest follows the lane's safe level (R152). -/
def maskEntryOn (t : Travel) (L : Lane) : Lane :=
  if safeIsActive L.setup then { L with output := .inactive .cleared }
  else match L.output with
    | .active _ => { L with output := .inactive (restFrom L.setup t) }
    | .inactive _ => L

/-- The mask's exit at a lane in TRACKING: a line that stood at its active level leaves it (R153). -/
def maskExitOn (t : Travel) (L : Lane) : Lane :=
  if safeIsActive L.setup then { L with output := .inactive (restFrom L.setup t) } else L

/-- The announcement of IDLE at a lane (R161). -/
def idleOn (L : Lane) : Lane := { L with output := .inactive .rested }

/-! ## Leaving the ring (R44, R45) -/

/-- The PREC slots of a record, in order of station number (R205). -/
def precSlots (s : State) (p : Part) : List (StationNo × Slot) :=
  (slotList p.slots).filter fun x => s.stations[x.1].role == .prec

/-- The PART report of a record at its outcome (R204, R206). -/
def reportOf (s : State) (o : OutcomeKind) (k : PocketNo) (p : Part) (purged : Bool) : PartReport :=
  { outcome := o, pocket := k, part := p, purged := purged, formatTwo := s.report.formatTwo, readings := precSlots s p }

/-- The record is delivered at its lane: the counts move, the outcome is counted for the run and for the lane, the report is
handed, and the record is freed (R34, R36, R44). -/
def deliver (l : LaneNo) (k : PocketNo) (p : Part) (s : State) : State :=
  let s1 := tallyCount (tallyLane l) (tallyCount tallyDelivered (modLane l deliverOn s))
  setRecord k none (handReport (reportOf s1 .delivered k p false) s1)

/-- The record departs with an outcome at the dump: counted, reported and freed (R40, R44). -/
def depart (o : OutcomeKind) (k : PocketNo) (p : Part) (s : State) : State :=
  let s1 := tallyCount (if o = .dumped then tallyDumped else tallyUnsorted) s
  setRecord k none (handReport (reportOf s1 o k p false) s1)

/-- The strand reason for a record that leaves its lane unfired (R38). -/
def passReason (s : State) (l : LaneNo) : StrandReason := if s.lanes[l].attr = .disabled then .disabled else .masked

/-- The in-use count of a record's bank falls by one (R102). -/
def unbind (id : BankId) (s : State) : State := modBank id (fun k => { k with inUse := k.inUse - 1 }) s

/-- A confirm entry leaves its lane's queue with its record (R43, R46). -/
def dropEntry (k : PocketNo) (L : Lane) : Lane := { L with queue := L.queue.eraseP (fun e => e.pocket == k) }

/-! ## Departure at the dump (R40 to R43) -/

/-- The departure of a record by its state (R40 to R43). -/
def departRecord (k : PocketNo) (p : Part) (s : State) : State :=
  match p.st with
  | .await => depart .unsorted k p (unbind p.bank s)
  | .routed v t =>
    depart .unsorted k { p with st := .stranded v (some t) (passReason s t.lane) } (modLane t.lane releaseOn s)
  | .fired v t =>
    depart .unsorted k { p with st := .stranded v (some t) .miss }
      (modLane t.lane releaseOn (raise .ejectMiss (countEjectMiss (modLane t.lane (dropEntry k) s))))
  | .stranded _ _ why => depart (if why = .noRoute then .dumped else .unsorted) k p s

/-- The record of the pocket at the dump offset departs, if it is not FREE. -/
def departure (s : State) : State :=
  match s.ring[pocketAt s s.geo.dumpOffset] with
  | none => s
  | some p => departRecord (pocketAt s s.geo.dumpOffset) p s

/-- The pass check of one lane: a record still ROUTED one offset beyond its lane strands, and its reservation is
released (R38). -/
def passCheck (l : LaneNo) (s : State) : State :=
  let e := s.lanes[l].setup.offset + 1
  if e < s.geo.pn then
    let k := pocketAt s e
    match s.ring[k] with
    | some p =>
      match p.st with
      | .routed v t =>
        if t.lane = l then
          modLane l releaseOn (setRecord k (some { p with st := .stranded v (some t) (passReason s l) }) s)
        else s
      | _ => s
    | none => s
  else s

/-! ## Purge (R46) -/

/-- What a purge releases for a record (R46). -/
def purgeRelease (k : PocketNo) (p : Part) (s : State) : State :=
  match p.st with
  | .await => unbind p.bank s
  | .routed _ t => modLane t.lane releaseOn s
  | .fired _ t => modLane t.lane (fun L => releaseOn (dropEntry k L)) s
  | .stranded _ _ _ => s

/-- A purge takes one record: its releases, one UNSORTED count, its report where the purge reports, and its freeing. -/
def purgeOne (reports : Bool) (k : PocketNo) (s : State) : State :=
  match s.ring[k] with
  | none => s
  | some p =>
    let t := tallyCount tallyUnsorted (purgeRelease k p s)
    setRecord k none (if reports then handReport (reportOf t .unsorted k p true) t else t)

/-- The records in the order a purge takes them: decreasing offset from the given pocket at the load station. The records
beyond the turret's pockets, which are FREE (R26), come last. -/
def purgeOrder (g : Geometry) (load : Nat) : List PocketNo :=
  (List.range g.pn).reverse.map (pocketFrom g load) ++ (List.finRange 128).filter fun k => g.pn ≤ k.val

/-- The purge of R46, with PART reports for a SLIP or STOP (R47) and without for a run reset (R48). -/
def purge (load : Nat) (reports : Bool) (s : State) : State :=
  (purgeOrder s.geo load).foldl (fun t k => purgeOne reports k t) s

/-! ## Classification and routing (R33, R108, R123) -/

/-- A lane takes a reservation, and the LANE-FULL flag is set where that makes it FULL (R121, R124). -/
def reserve (l : LaneNo) (s : State) : State :=
  let t := modLane l reserveOn s
  if !laneFull s.lanes[l] && laneFull t.lanes[l] then raise .laneFull t else t

/-- The candidates of R123: DIRECT, PARTNER and OVERFLOW, without those that are none or repeat an earlier one. -/
def candidates (s : State) (d : LaneNo) : List Target :=
  let partner := s.lanes[d].setup.partner
  let second := match partner with
    | some q => if q = d then [] else [{ lane := q, kind := .partner }]
    | none => []
  let third := match s.overflow with
    | some o => if o = d ∨ partner = some o then [] else [{ lane := o, kind := .overflow }]
    | none => []
  ({ lane := d, kind := .direct } : Target) :: (second ++ third)

/-- Route resolution for a classified record (R123). -/
def resolveRoute (k : PocketNo) (p : Part) (v : Verdict) (r : Route) (s : State) : State :=
  match r with
  | none => setRecord k (some { p with st := .stranded v none .noRoute }) s
  | some d =>
    match (candidates s d).find? (fun t => hasRoom s.lanes[t.lane]) with
    | some t => setRecord k (some { p with st := .routed v t }) (reserve t.lane s)
    | none => setRecord k (some { p with st := .stranded v none .noLane }) s

/-- The classification event of an AWAIT record whose slots are all resolved, in the order of R108. A record in another
state, or with a slot unresolved, is not classified (R39). -/
def classify (k : PocketNo) (s : State) : State :=
  match s.ring[k] with
  | none => s
  | some p =>
    if p.st = .await ∧ allResolved p.slots then
      let tb := (bankAt s.banks p.bank).table
      let v := decideVerdict tb s.stations p.slots
      let s1 := tallyCount (tallyClass v) (unbind p.bank s)
      let s2 := if v = .missing then raise .missing s1 else s1
      resolveRoute k p v (routeFor tb v) s2
    else s

/-- A slot of an AWAIT record is written, and the record is classified if that resolved its last slot (R33, R63). -/
def writeSlot (k : PocketNo) (m : StationNo) (x : Slot) (s : State) : State :=
  match s.ring[k] with
  | none => s
  | some p =>
    if p.st = .await then classify k (setRecord k (some { p with slots := p.slots.set m (some x) }) s) else s

/-! ## The mask (R164 to R168) -/

/-- The motion faults the tracker reports. -/
inductive MotionFault where
  | slip | reverse
deriving DecidableEq, Repr

/-- The mask state becomes MASKED and the entry is handed out: to the jet drivers in TRACKING, and to the MASK-ENTER flag
(R165). LOADEN follows the mask state by itself (`loaden`). -/
def enterMask (s : State) : State :=
  let t := s.setMask { s.mask with masked := true }
  raise .maskEnter (if isTracking t then mapLanes (maskEntryOn t.trk.travel) t else t)

/-- A reason joins the reason set, the clean count starts afresh, and a LIVE mask is entered with that one reason
(R164, R169). -/
def addReason (slip reverse forced : Bool) (s : State) : State :=
  if s.mask.masked then
    s.setMask { s.mask with slip := s.mask.slip || slip, reverse := s.mask.reverse || reverse,
                            forced := s.mask.forced || forced, clean := 0 }
  else
    enterMask (s.setMask { s.mask with slip := slip, reverse := reverse, forced := forced, clean := 0 })

/-- The tracker reports a motion fault (R164). -/
def motionFault (w : MotionFault) (s : State) : State :=
  match w with
  | .slip => addReason true false false s
  | .reverse => addReason false true false s

/-- The mask controller with the mask LIVE: no reason, clean count 0; the recovery mode and N are kept. -/
def liveMask (m : Mask) : Mask := { m with masked := false, slip := false, reverse := false, forced := false, clean := 0 }

/-- The mask exits (R168). -/
def exitMask (s : State) : State :=
  let t := s.setMask (liveMask s.mask)
  raise .maskExit (if isTracking t then mapLanes (maskExitOn t.trk.travel) t else t)

/-- A clean revolution at the mask controller (R166). -/
def cleanRevolution (s : State) : State :=
  if s.mask.masked then
    let t := s.setMask { s.mask with clean := satInc 15 s.mask.clean }
    if t.mask.auto && t.mask.n ≤ t.mask.clean && !t.mask.forced then exitMask t else t
  else s

/-! ## SLIP (R20) -/

/-- The tracker raises SLIP. The records are taken in decreasing offset from the pocket that stood at the load station
before pos was re-aligned (log 12). -/
def slip (load : Nat) (s : State) : State :=
  let t := s.setTrk { s.trk with lag := 0, indexRef := s.trk.travel, armed := true }
  raise .slip (motionFault .slip (purge load true t))

/-! ## Phase events (R9) -/

/-- The load phase: a part is sensed where LOADEN and PPS are high (R29, R30). -/
def loaden (s : State) : Bool := isTracking s && !s.mask.masked && !s.loadPause

/-- The serial after a serial: it wraps from the largest to 1 (R31). -/
def nextSerial (n : BitVec 32) : BitVec 32 := if n = 0xFFFFFFFF then 1 else n + 1

/-- The slots of a record loaded now: one PENDING slot for each station with a role (R27). -/
def newSlots (s : State) : Vector (Option Slot) 4 :=
  s.stations.map fun x => if x.role = .none then none else some .waiting

/-- The record of a load sensed now, bound to the live bank (R29, R32). -/
def newPart (s : State) : Part :=
  let bank := bankAt s.banks s.banks.live
  { st := .await, serial := s.serial, bank := s.banks.live, generation := bank.generation, lot := bank.table.lot,
    slots := newSlots s }

/-- The act of the pocket ring at a phase event (R29, R30). -/
def loadSample (s : State) : State :=
  let k := pocketAt s 0
  if phase s = s.geo.loadPhase ∧ loaden s ∧ s.pins.pps ∧ s.ring[k] = none then
    tallyCount tallyLoaded
      (modBank s.banks.live (fun b => { b with inUse := b.inUse + 1 })
        ((setRecord k (some (newPart s)) s).setSerial (nextSerial s.serial)))
  else s

/-- The act of a station at a phase event: a due station skips the slot or issues a trigger (R55 to R57). DESIGN CHOICE: a
trigger issued while an earlier pulse of the station has not ended takes the line over, which then ends at the new
trigger's end alone (log 30). -/
def triggerPhase (spanEnd : Option Travel) (m : StationNo) (s : State) : State :=
  let x := s.stations[m]
  if x.role ≠ .none ∧ phase s = x.trigPhase ∧ x.offset < s.geo.pn then
    let k := pocketAt s x.offset
    match s.ring[k] with
    | none => s
    | some p =>
      if p.st = .await ∧ p.slots[m] = some .waiting then
        if x.role = .prec ∧ x.skip ∧ contactFailed p.slots then writeSlot k m .skipped s
        else
          let t := s.trk.travel
          modStation m
            (fun y => { y with seq := y.seq + 1, pulseEnd := some (movedPast spanEnd t (t + BitVec.ofNat 32 x.trigWidth)) })
            (writeSlot k m (.outstanding (x.seq + 1)) s)
      else s
  else s

/-- A fire is due and taken: the record is ROUTED with target this lane, the mask is LIVE and the lane OPEN or HELD
(R142). -/
def fireTaken (l : LaneNo) (t : Target) (s : State) : Bool :=
  t.lane == l && !s.mask.masked && s.lanes[l].attr != .disabled

/-- The act of a lane's jet driver at a phase event: the fire (R142 to R146, R155). -/
def firePhase (spanEnd : Option Travel) (l : LaneNo) (s : State) : State :=
  let L := s.lanes[l]
  if phase s = L.setup.firePhase ∧ L.setup.offset < s.geo.pn then
    let k := pocketAt s L.setup.offset
    match s.ring[k] with
    | none => s
    | some p =>
      match p.st with
      | .routed v t =>
        if fireTaken l t s then
          let f := s.trk.travel
          if L.setup.confirm then
            modLane l
              (fun M => fireOutput spanEnd f
                { M with queue := M.queue ++ [{ pocket := k, fire := f, windowEnd := f + BitVec.ofNat 32 M.setup.window }] })
              (setRecord k (some { p with st := .fired v t }) s)
          else modLane l (fireOutput spanEnd f) (deliver l k p s)
        else s
      | _ => s
  else s

/-- The phase event of the present mark position: the pocket ring, then the stations, then the lanes (R9; log 10). -/
def phaseEvent (spanEnd : Option Travel) (s : State) : State :=
  let s1 := loadSample s
  let s2 := allStations.foldl (fun t m => triggerPhase spanEnd m t) s1
  allLanes.foldl (fun t l => firePhase spanEnd l t) s2

/-! ## Deadlines (R68, R70) -/

/-- The record at a station's offset plus its deadline, where that offset lies on the turret. -/
def deadlinePocket (s : State) (m : StationNo) : Option PocketNo :=
  let x := s.stations[m]
  if isTracking s ∧ x.role ≠ .none ∧ x.offset + x.deadline < s.geo.pn then some (pocketAt s (x.offset + x.deadline))
  else none

/-- A station's deadline is due: an AWAIT record with its slot unresolved stands at the deadline offset (R68, R70). A
record comes there only at the pitch event of its deadline, and its slot is resolved once the deadline is taken. -/
def deadlineDue (s : State) (m : StationNo) : Bool :=
  match deadlinePocket s m with
  | none => false
  | some k =>
    match s.ring[k] with
    | some p => p.st == .await && (match p.slots[m] with | some x => !isResolved x | none => false)
    | none => false

/-- The expired list with a number added at its newest end, and at most 8 long (R68). -/
def addExpired (q : BitVec 8) (xs : List (BitVec 8)) : List (BitVec 8) :=
  let ys := xs ++ [q]
  if 8 < ys.length then ys.tail else ys

/-- The deadline of a station is taken at the record that stands there (R68, R70). -/
def takeDeadline (m : StationNo) (s : State) : State :=
  match deadlinePocket s m with
  | none => s
  | some k =>
    match s.ring[k] with
    | none => s
    | some p =>
      if p.st = .await then
        match p.slots[m] with
        | some (.outstanding q) =>
          writeSlot k m (.expired (some q)) (modStation m (fun y => { y with expired := addExpired q y.expired }) s)
        | some .waiting => writeSlot k m (.expired none) s
        | _ => s
      else s

/-! ## The pitch event (R10) -/

/-- A record stands where the pass check of some lane would strand it. -/
def passPending (s : State) : Bool :=
  allLanes.any fun l =>
    let e := s.lanes[l].setup.offset + 1
    if e < s.geo.pn then
      match s.ring[pocketAt s e] with
      | some p => (match p.st with | .routed _ t => t.lane == l | _ => false)
      | none => false
    else false

/-- A pitch event where a deadline falls together with a departure or a pass check: the manual gives both orders and
prefers neither (R41, R129). -/
def pitchContested (s : State) : Bool :=
  allStations.any (deadlineDue s) && ((s.ring[pocketAt s s.geo.dumpOffset]).isSome || passPending s)

/-- Where the pitch event is contested, the free order decides whether its deadlines come first. DESIGN CHOICE: where they
do, they and the classifications they cause are taken in order of station, M0 to M3; R68 gives no order and R126 either
(log 6). -/
def contestedDeadlines (s : State) : State :=
  if pitchContested s then
    let t := s.setChoice (s.choice + 1)
    if Config.deadlinesFirst s.choice then allStations.foldl (fun u m => takeDeadline m u) t else t
  else s

/-- The pitch event at the pocket ring: the pass check, then the departure (R38, R40; either order is the same, R42). The
deadlines of the pitch event are taken before these where `contestedDeadlines` says so, and otherwise by their own commands
or in `takePoints`. -/
def pitchEvent (s : State) : State :=
  departure (allLanes.foldl (fun t l => passCheck l t) (contestedDeadlines s))

/-! ## Travel points (R11) -/

/-- The end of a station's trigger pulse, where travel has reached it (R57). -/
def takeTriggerEnd (m : StationNo) (s : State) : State :=
  if isTracking s ∧ s.stations[m].pulseEnd = some s.trk.travel then modStation m (fun y => { y with pulseEnd := none }) s
  else s

/-- The close of a lane's run, where travel has reached it (R148, R149). -/
def takeClose (l : LaneNo) (s : State) : State :=
  match s.lanes[l].output with
  | .active run =>
    if isTracking s ∧ run.closeAt = s.trk.travel then
      modLane l (fun L => { L with output := .inactive (restFrom L.setup s.trk.travel) }) s
    else s
  | .inactive _ => s

/-- The rest point of an inactive lane, where travel has reached it (R148). -/
def takeRestPoint (l : LaneNo) (s : State) : State :=
  match s.lanes[l].output with
  | .inactive (.since mark) =>
    if isTracking s ∧ mark + BitVec.ofNat 32 s.lanes[l].setup.restDist = s.trk.travel then
      modLane l (fun L => { L with output := .inactive .rested }) s
    else s
  | _ => s

/-- The ring strands a FIRED record of a lane with reason MISS, and the reservation is released (R37). A record in another
state is left as it is (R39). -/
def missRecord (l : LaneNo) (k : PocketNo) (s : State) : State :=
  match s.ring[k] with
  | some p =>
    match p.st with
    | .fired v t =>
      if t.lane = l then modLane l releaseOn (setRecord k (some { p with st := .stranded v (some t) .miss }) s) else s
    | _ => s
  | none => s

/-- The window end of a lane's oldest confirm entry, where travel has reached it: a miss (R158). -/
def takeWindowEnd (l : LaneNo) (s : State) : State :=
  match s.lanes[l].queue with
  | [] => s
  | e :: rest =>
    if isTracking s ∧ e.windowEnd = s.trk.travel then
      missRecord l e.pocket (raise .ejectMiss (countEjectMiss (modLane l (fun L => { L with queue := rest }) s)))
    else s

/-- The close, window end and rest point of a lane, in the order of R147. -/
def takeLanePoints (l : LaneNo) (s : State) : State := takeRestPoint l (takeWindowEnd l (takeClose l s))

/-- The travel points that stand at the present travel: trigger ends, then each lane's points (R11). -/
def takeTravelPoints (s : State) : State :=
  allLanes.foldl (fun t l => takeLanePoints l t) (allStations.foldl (fun t m => takeTriggerEnd m t) s)

/-- Travel has reached the missing-index point: the index reference plus C + Ti + 1 (R22). -/
def missingIndexDue (s : State) : Bool :=
  isTracking s && s.trk.travel == s.trk.indexRef + BitVec.ofNat 32 (s.geo.c + s.geo.ti + 1)

/-- The missing-index SLIP, where it is due (R22). -/
def takeMissingIndex (s : State) : State := if missingIndexDue s then slip (loadPocket s) (opened s) else s

/-- What is left of a lane's event at the last advance: its close, window end and rest point (R147). -/
def finishLane (l : LaneNo) (s : State) : State := takeRestPoint l (takeWindowEnd l (opened (takeClose l s)))

/-- The points of the last advance that have not been taken by their own commands: the deadlines of its pitch event, the
trigger ends, and what is left of each lane's event. DESIGN CHOICE: in this order, and by number (log 4). -/
def takePoints (s : State) : State :=
  let t := allStations.foldl (fun u m => takeDeadline m (opened u)) s
  allLanes.foldl (fun u l => finishLane l u) (allStations.foldl (fun u m => takeTriggerEnd m u) t)

/-- The last advance is over: all that fell due at it has been taken. A command that acts on the turret, a record, a lane or
the mask, or that executes a frame, begins here, so that a lane's event stays whole (R147), a result comes before or
after the whole pitch event of its deadline (R69), and no point is stepped over (R11; log 4). -/
def settled (s : State) : State := opened (takeMissingIndex (takePoints s))

/-- Nothing has fallen due that has not been taken. -/
def nothingDue (s : State) : Bool :=
  !isTracking s ||
    (!missingIndexDue s && allStations.all (fun m => !deadlineDue s m && s.stations[m].pulseEnd != some s.trk.travel) &&
      allLanes.all fun l =>
        (match s.lanes[l].output with
          | .active run => run.closeAt != s.trk.travel
          | .inactive (.since mark) => mark + BitVec.ofNat 32 s.lanes[l].setup.restDist != s.trk.travel
          | .inactive _ => true) &&
        (match s.lanes[l].queue with
          | [] => true
          | e :: _ => e.windowEnd != s.trk.travel))

/-! ## The advance of the mark (R6, R9, R10) -/

/-- The mark advances by one position: pos and travel move, the reverse detector is re-armed, and the events of the new mark
position are taken, the pitch event first where there is one (R6, R9, R10; log 10). DESIGN CHOICE: a classification by a
trigger skipped at phase 0 comes before one by a deadline of the same pitch event, but for a contested pitch event whose
deadlines come first; R126 gives either order (log 6). DESIGN CHOICE: the reservation that a skipped trigger's classification
takes here comes before the release by a window end at the same lane on the same advance, which is taken after it; R129
gives both orders (log 6). -/
def advance (spanEnd : Option Travel) (s : State) : State :=
  let t := s.setTrk { s.trk with pos := (s.trk.pos + 1) % s.geo.c, travel := s.trk.travel + 1, armed := true }
  phaseEvent spanEnd (if phase t = 0 then pitchEvent t else t)

/-- The k advances of a forward re-alignment, each with its phase event and its travel points (R18). -/
def advanceSpan (spanEnd : Travel) : Nat → State → State
  | 0, s => s
  | k + 1, s => advanceSpan spanEnd k (takeTravelPoints (advance (some spanEnd) s))

/-! ## Leaving TRACKING (R15) -/

/-- The tracker announces IDLE: the ring purges, the trigger lines and jets go inactive, the mask returns to LIVE, and the
load pause is cleared (R15, R50, R57, R161, R173). -/
def announceIdle (reports : Bool) (s : State) : State :=
  let s1 := purge (loadPocket s) reports (s.setTrk { s.trk with st := .idle })
  let s2 := s1.setStations (s1.stations.map fun x => { x with pulseEnd := none })
  let s3 := mapLanes idleOn s2
  (s3.setMask (liveMask s3.mask)).setLoadPause false

/-! ## Taking up the head frame (R183 to R186) -/

/-- A refusal or answer with no detail and no data. -/
def answer (st : Status) : Answer := { status := st }

/-- A frame that the lock refuses: LOCKED, with the LOCK-VIOLATION flag (R112, R113). -/
def unlessLocked (s : State) (go : State × Answer) : State × Answer :=
  if s.banks.lock then (raise .lockViolation s, answer .locked) else go

/-- The processor takes up a management frame of a kind that stands at the head of the inbound queue, if its first
argument is one that this command handles or its length is wrong. It begins the frame only with a place for the REPLY, and
otherwise leaves it where it stands, stalled (R186). The frame is executed, leaves the queue, and its REPLY is placed
(R183 to R185). With another frame at the head, or none, nothing happens. -/
def takeUp (k : Kind) (mine : Byte → Bool) (act : Frame → State → State × Answer) (s : State) : State :=
  match s.inbound with
  | [] => s
  | f :: _ =>
    if frameCode f = kindCode k ∧ (lengthFits k f = false ∨ mine (firstArg f)) then
      if placeForReply s then
        let r := if lengthFits k f then act f (keepPlace s) else (keepPlace s, answer .badLength)
        placeReply f r.2 (dropHead r.1)
      else s
    else s

/-- A command that handles every frame of its kind. -/
def anyArg (_ : Byte) : Bool := true

end Sys2Proof.Machine
end

