-- ==== Sys2Proof/Machine/Control.lean ====
section
/-!
DEFINITION. MASK-CONTROL (R169 to R172), EVENT-CONTROL (R214 to R216), TALLY-CLEAR (R210) and FORMAT-SELECT (R207).

As for RUN-CONTROL, a frame with an undefined order or a wrong length is answered by whichever command of its kind meets
it (R172, R214; log 15).
-/

namespace Sys2Proof.Machine

/-! ## MASK-CONTROL -/

/-- The order byte is the given order, or no order at all (log 15). -/
def maskArg (o : MaskOrder) (c : Byte) : Bool := maskOrderOf c == some o || (maskOrderOf c).isNone

/-- A frame whose order is none of the three is refused BAD-ARG (R172). -/
def forMaskOrder (o : MaskOrder) (f : Frame) (s : State) (go : State × Answer) : State × Answer :=
  if maskOrderOf (firstArg f) = some o then go else (s, answer .badArg)

/-- FORCE at the output mask controller (R169). -/
def actForce (f : Frame) (s : State) : State × Answer :=
  forMaskOrder .force f s (addReason false false true s, answer .ok)

/-- FORCE. -/
def execForce (s : State) : Host.Outcome State Fault Refusal := .next (takeUp .maskControl (maskArg .force) actForce (settled s))

/-- RECOVER at the output mask controller (R170). -/
def actRecover (f : Frame) (s : State) : State × Answer :=
  forMaskOrder .recover f s
    (if s.trk.st = .tracking ∧ s.mask.masked then (exitMask s, answer .ok) else (s, answer .wrongState))

/-- RECOVER. -/
def execRecover (s : State) : Host.Outcome State Fault Refusal :=
  .next (takeUp .maskControl (maskArg .recover) actRecover (settled s))

/-- MODE at the output mask controller (R171). -/
def actMode (f : Frame) (s : State) : State × Answer :=
  forMaskOrder .mode f s
    (match recoveryAutoOf (hiByte (word f 2)) with
    | none => (s, answer .badArg)
    | some auto =>
      let n := (loByte (word f 2)).toNat
      if 1 ≤ n ∧ n ≤ 15 then (s.setMask { s.mask with auto := auto, n := n }, answer .ok) else (s, answer .badArg))

/-- MODE. -/
def execMode (s : State) : Host.Outcome State Fault Refusal := .next (takeUp .maskControl (maskArg .mode) actMode (settled s))

/-! ## EVENT-CONTROL -/

/-- The order byte is the given order, or no order at all (log 15). -/
def eventArg (o : EventOrder) (c : Byte) : Bool := eventOrderOf c == some o || (eventOrderOf c).isNone

/-- The check of R214: the order expected, and a flag set that names no flag beyond the 14. -/
def forEventOrder (o : EventOrder) (f : Frame) (s : State) (go : BitVec 14 → State) : State × Answer :=
  if eventOrderOf (firstArg f) = some o then
    match flagSetOf (word f 2) with
    | some x => (go x, answer .ok)
    | none => (s, answer .badArg)
  else (s, answer .badArg)

/-- ENABLE at the event block (R215). -/
def actEnable (f : Frame) (s : State) : State × Answer :=
  forEventOrder .enable f s fun x => s.setEvents { s.events with enables := x }

/-- ENABLE. -/
def execEnable (s : State) : Host.Outcome State Fault Refusal :=
  .next (takeUp .eventControl (eventArg .enable) actEnable (settled s))

/-- CLEAR at the event block (R216). -/
def actClear (f : Frame) (s : State) : State × Answer :=
  forEventOrder .clear f s fun x => s.setEvents { s.events with flags := s.events.flags &&& ~~~x }

/-- CLEAR. -/
def execClear (s : State) : Host.Outcome State Fault Refusal :=
  .next (takeUp .eventControl (eventArg .clear) actClear (settled s))

/-! ## TALLY-CLEAR and FORMAT-SELECT -/

/-- The number of pocket records not FREE. -/
def liveRecords (s : State) : Nat := s.ring.countP (·.isSome)

/-- TALLY-CLEAR at the tally (R210). -/
def actTallyClear (_ : Frame) (s : State) : State × Answer :=
  unlessLocked s (s.setTally ((Vector.replicate 49 0).set tallyLoaded (liveRecords s)), answer .ok)

/-- TALLY_CLEAR. -/
def execTallyClear (s : State) : Host.Outcome State Fault Refusal := .next (takeUp .tallyClear anyArg actTallyClear (settled s))

/-- FORMAT-SELECT at the report queue (R207). -/
def actFormatSelect (f : Frame) (s : State) : State × Answer :=
  unlessLocked s
    (if s.report.formatMark then (s, answer .alreadySet)
    else if firstArg f = 1 ∨ firstArg f = 2 then
      (s.setReport { s.report with formatTwo := firstArg f == 2, formatMark := true }, answer .ok)
    else (s, answer .badArg))

/-- FORMAT_SELECT. -/
def execFormatSelect (s : State) : Host.Outcome State Fault Refusal :=
  .next (takeUp .formatSelect anyArg actFormatSelect (settled s))

end Sys2Proof.Machine
end

