-- ==== Sys2Proof/Machine/Link.lean ====
section
/-!
DEFINITION. The M-link receiver and the inbound queue (R178 to R182): FRAME_START, MCLK_RISING_EDGE, HEADER_RECEIVED,
FRAME_COMPLETE and MFS_DEASSERT.
-/

namespace Sys2Proof.Machine

/-- The header of the frame being assembled is complete and has not been examined. -/
def headerDue (s : State) : Bool := s.rx.st == .receiving && s.rx.wordCount == 1 && s.rx.bitCount == 0 && s.rx.declared.isNone

/-- The last declared bit of the frame has been sampled. -/
def frameDue (s : State) : Bool :=
  s.rx.st == .receiving && s.rx.bitCount == 0 && s.rx.declared == some s.rx.wordCount

/-- A RUNT: one count and the flag (R179, R180). -/
def runt (s : State) : State := raise .runt (countRunt s)

/-- The header is examined: a declared length of 2 to 16 is kept, and another makes the frame a RUNT (R179). -/
def takeHeader (s : State) : State :=
  if headerDue s then
    let n := declaredLength s.rx.words
    if 2 ≤ n ∧ n ≤ 16 then s.setRx { s.rx with declared := some n } else runt (s.setRx { s.rx with st := .trailing })
  else s

/-- A good frame arrives at the inbound queue, or is discarded as an OVERRUN when the queue holds 8 (R182). -/
def arrive (f : Frame) (s : State) : State :=
  if s.inbound.length < Config.inboundPlaces then s.setInbound (s.inbound ++ [f])
  else raise .overrun (countOverrun s)

/-- The frame is complete: a sum of 0 makes it good, and another sum a BADSUM (R181). -/
def takeComplete (s : State) : State :=
  if frameDue s then
    let t := s.setRx { s.rx with st := .trailing }
    if s.rx.sum = 0 then arrive s.rx.words t else raise .badSum (countBadSum t)
  else s

/-- What the sampled bits have completed, the header and then the frame, is taken before the receiver takes a further bit
or a deassertion of MFS (log 4). -/
def takeReceived (s : State) : State := opened (takeComplete (opened (takeHeader (opened s))))

/-- The receiver at an assertion of MFS in WAITING (R178). -/
def startFrame (r : Receiver) : Receiver :=
  { r with st := .receiving, wordCount := 0, bitCount := 0, sum := 0, shift := 0, declared := none, words := [] }

/-- The receiver shifts in one bit; the sixteenth completes the word (R178). -/
def shiftBit (mdat : Bool) (r : Receiver) : Receiver :=
  let w := (r.shift <<< 1) ||| (BitVec.ofBool mdat).setWidth 16
  if r.bitCount = 15 then
    { r with bitCount := 0, shift := 0, sum := r.sum + w, wordCount := r.wordCount + 1, words := r.words ++ [w] }
  else { r with bitCount := r.bitCount + 1, shift := w }

/-- FRAME_START. -/
def execFrameStart (s : State) : Host.Outcome State Fault Refusal :=
  let t := s.setPins { s.pins with mfs := true }
  .next (if s.rx.st = .waiting ∧ s.pins.mfs = false then t.setRx (startFrame t.rx) else t)

/-- HEADER_RECEIVED. -/
def execHeaderReceived (s : State) : Host.Outcome State Fault Refusal := .next (takeHeader (opened s))

/-- FRAME_COMPLETE. -/
def execFrameComplete (s : State) : Host.Outcome State Fault Refusal := .next (takeComplete (opened s))

/-- MFS deasserts: the receiver returns to WAITING with no words, and a frame still in RECEIVING is a RUNT (R178, R180). -/
def endFrame (s : State) : State :=
  let t := (s.setPins { s.pins with mfs := false }).setRx (Receiver.reset false)
  if s.rx.st = .receiving then runt t else t

/-- MFS_DEASSERT. -/
def execMfsDeassert (s : State) : Host.Outcome State Fault Refusal := .next (endFrame (takeReceived s))

/-- A rising edge of MCLK: in RECEIVING the bit is shifted into the current word, and elsewhere it is ignored (R178). -/
def sampleBit (mdat : Bool) (s : State) : State :=
  if s.rx.st = .receiving then s.setRx (shiftBit mdat s.rx) else s

/-- MCLK_RISING_EDGE. -/
def execMclkRisingEdge (mdat : Bool) (s : State) : Host.Outcome State Fault Refusal :=
  .next (sampleBit mdat (takeReceived s))

end Sys2Proof.Machine
end

