-- ==== Sys2Proof/Machine/Motion.lean ====
section
/-!
DEFINITION. The motion commands: ENCODER_COUNT (R1 to R12, R23), INDEX_EVENT (R14, R16 to R21) and SLIP_MISSING_INDEX (R22).
-/

namespace Sys2Proof.Machine

/-- What a step of the quadrature pair is to the position counter. -/
inductive CountStep where
  | none | forward | backward
deriving DecidableEq, Repr

/-- The table of R1: the step from one (ENCA, ENCB) pair to another in an edge evaluation mode. A pair in which both have
changed, or neither, is no count (R2). -/
def quadStep (mode : EdgeMode) (a b a' b' : Bool) : CountStep :=
  match a, b, a', b' with
  | false, false, true, false => .forward
  | true, false, true, true => if mode = .x4 then .forward else .none
  | true, true, false, true => if mode = .x1 then .none else .forward
  | false, true, false, false => if mode = .x4 then .forward else .none
  | true, false, false, false => .backward
  | true, true, true, false => if mode = .x4 then .backward else .none
  | false, true, true, true => if mode = .x1 then .none else .backward
  | false, false, false, true => if mode = .x4 then .backward else .none
  | _, _, _, _ => .none

/-- pos one count forward, wrapping at C (R2). -/
def posUp (s : State) : Nat := (s.trk.pos + 1) % s.geo.c

/-- pos one count back, wrapping at 0 (R2). -/
def posDown (s : State) : Nat := (s.trk.pos + s.geo.c - 1) % s.geo.c

/-- A forward count in TRACKING: over old ground it only reduces the lag, and otherwise the mark advances (R6). -/
def forwardTracking (s : State) : State :=
  if 0 < s.trk.lag then s.setTrk { s.trk with pos := posUp s, lag := s.trk.lag - 1 } else advance none s

/-- The tracker raises REVERSE (R12). -/
def raiseReverse (s : State) : State :=
  raise .reverse (motionFault .reverse (s.setTrk { s.trk with armed := false }))

/-- A backward count in TRACKING: the lag grows, REVERSE is raised beyond H, and a count that would bring the lag to C is a
reverse overrun (R7, R12, R23). -/
def backwardTracking (s : State) : State :=
  if s.geo.c ≤ s.trk.lag + 1 then slip (loadPocket s) (s.setTrk { s.trk with pos := posDown s })
  else
    let t := s.setTrk { s.trk with pos := posDown s, lag := s.trk.lag + 1 }
    if s.geo.h < t.trk.lag ∧ t.trk.armed then raiseReverse t else t

/-- A change of level at the front end: the pair becomes the quadrature reference, and the count it gives is taken (R1, R2).
Outside TRACKING a count moves pos alone (R6, R7). -/
def encoderChange (enca encb : Bool) (s : State) : State :=
  let step := quadStep s.geo.mode s.trk.quadA s.trk.quadB enca encb
  let t := s.setTrk { s.trk with quadA := enca, quadB := encb }
  match step with
  | .none => t
  | .forward => if isTracking t then forwardTracking t else t.setTrk { t.trk with pos := posUp t }
  | .backward => if isTracking t then backwardTracking t else t.setTrk { t.trk with pos := posDown t }

/-- The part-present sensor as it stands at a motion event (R29). -/
def seePps (pps : Bool) (s : State) : State := s.setPins { s.pins with pps := pps }

/-- ENCODER_COUNT. -/
def execEncoderCount (enca encb pps : Bool) (s : State) : Host.Outcome State Fault Refusal :=
  .next (encoderChange enca encb (seePps pps (settled s)))

/-! ## The index (R14, R16 to R21) -/

/-- Homing (R14): the tracker enters TRACKING at the index offset; a mask carried through START brings each line to its safe
level with the rest effects of an entry with no run (R173). -/
def home (s : State) : State :=
  let t := s.setTrk { s.trk with st := .tracking, pos := s.geo.indexOffset, lag := 0, travel := 0, indexRef := 0,
                                 armed := true }
  if t.mask.masked then mapLanes (maskEntryOn t.trk.travel) t else t

/-- The signed circular distance of a captured position from the index offset, in −C/2 to C/2 − 1 (R16). -/
def indexDelta (c capture offset : Nat) : Int :=
  let d := (capture + c - offset) % c
  if c ≤ 2 * d then (d : Int) - c else d

/-- An index that counts for the revolution sets the index reference and reports a clean revolution; another clean index
does neither (R19). -/
def indexCounts (counts : Bool) (s : State) : State :=
  if counts then
    cleanRevolution (s.setTrk { s.trk with indexRef := s.trk.travel - BitVec.ofNat 32 s.trk.lag })
  else s

/-- The backward re-alignment of a counter that had gained, or the reverse overrun it may come to (R17). -/
def realignBack (gained : Nat) (s : State) : State :=
  if s.geo.c ≤ s.trk.lag + gained then slip (loadPocket s) (s.setTrk { s.trk with pos := s.geo.indexOffset })
  else
    indexCounts (s.trk.lag == 0)
      (s.setTrk { s.trk with pos := s.geo.indexOffset, lag := s.trk.lag + gained })

/-- The forward re-alignment of a counter that had lost: the lag absorbs what it can, and the mark advances through the
rest (R17, R18). -/
def realignForward (lost : Nat) (s : State) : State :=
  if lost ≤ s.trk.lag then
    indexCounts (s.trk.lag == 0) (s.setTrk { s.trk with pos := s.geo.indexOffset, lag := s.trk.lag - lost })
  else
    let k := lost - s.trk.lag
    let spanEnd := s.trk.travel + BitVec.ofNat 32 k
    indexCounts true (advanceSpan spanEnd k (s.setTrk { s.trk with pos := markPos s, lag := 0 }))

/-- The index event of R16 in TRACKING: clean within Ti, and a SLIP by position beyond it (R21). -/
def indexTracking (s : State) : State :=
  let delta := indexDelta s.geo.c s.trk.pos s.geo.indexOffset
  let t := s.setTrk { s.trk with capture := s.trk.pos }
  if delta.natAbs ≤ s.geo.ti then
    if 0 ≤ delta then realignBack delta.natAbs t else realignForward delta.natAbs t
  else slip (loadPocket t) (t.setTrk { t.trk with pos := t.geo.indexOffset })

/-- INDEX_EVENT. -/
def execIndexEvent (pps : Bool) (s : State) : Host.Outcome State Fault Refusal :=
  let t := seePps pps (settled s)
  .next (match t.trk.st with
    | .idle => t
    | .homing => home t
    | .tracking => indexTracking t)

/-- SLIP_MISSING_INDEX, after the points that stand at the same travel; without effect where it is not due (log 4). -/
def execSlipMissingIndex (s : State) : Host.Outcome State Fault Refusal :=
  .next (if missingIndexDue s then takeMissingIndex (takePoints s) else s)

end Sys2Proof.Machine
end

