-- ==== Sys2Proof/Machine/Points.lean ====
section
/-!
DEFINITION. The points that turret motion brings due, each a step of its own (R57, R68, R148, R158), and the drop
sensors (R156, R157). A point that is not due has no effect (log 4).
-/

namespace Sys2Proof.Machine

/-- TRIGGER_END. -/
def execTriggerEnd (m : StationNo) (s : State) : Host.Outcome State Fault Refusal := .next (takeTriggerEnd m s)

/-- DEADLINE_EXPIRY. -/
def execDeadlineExpiry (m : StationNo) (s : State) : Host.Outcome State Fault Refusal := .next (takeDeadline m (opened s))

/-- RUN_CLOSE. -/
def execRunClose (l : LaneNo) (s : State) : Host.Outcome State Fault Refusal := .next (takeClose l s)

/-- REST_POINT. -/
def execRestPoint (l : LaneNo) (s : State) : Host.Outcome State Fault Refusal := .next (takeRestPoint l s)

/-- WINDOW_END. -/
def execWindowEnd (l : LaneNo) (s : State) : Host.Outcome State Fault Refusal := .next (takeWindowEnd l (opened s))

/-- The ring delivers a FIRED record of a lane (R36). A record in another state is left as it is (R39). -/
def confirmRecord (l : LaneNo) (k : PocketNo) (s : State) : State :=
  match s.ring[k] with
  | some p =>
    match p.st with
    | .fired _ t => if t.lane = l then deliver l k p s else s
    | _ => s
  | none => s

/-- A rising edge of a DROP line: the oldest entry is confirmed (R156), and with an empty queue the drop is stray (R157). -/
def dropEdge (l : LaneNo) (s : State) : State :=
  match s.lanes[l].queue with
  | [] => raise .stray (countStray s)
  | e :: rest => confirmRecord l e.pocket (modLane l (fun L => { L with queue := rest }) s)

/-- DROP. -/
def execDrop (l : LaneNo) (s : State) : Host.Outcome State Fault Refusal := .next (dropEdge l (settled s))

end Sys2Proof.Machine
end

