-- ==== Sys2Proof/Machine/Layout.lean ====
section
/-!
DEFINITION. The words of outbound frames (R224 to R226) and the data of the QUERY replies (R193 to R196, R114, R136, R225).
-/

namespace Sys2Proof.Machine

/-! ## Fields -/

/-- A signed field of two words in two's complement (R219). -/
def signed32 (d : Int) : List Word16 := words32 (BitVec.ofInt 32 d)

/-- The bin byte of a verdict: absent for every class but BIN (R224). -/
def binByte : Verdict → Byte
  | .bin i _ => BitVec.ofNat 8 i.val
  | _ => absentByte

/-- The deviation a verdict carries, for the classes that carry one (R75). -/
def deviationIn : Verdict → Option Deviation
  | .bin _ d | .out d | .unstable d => some d
  | .contact | .missing | .invalid => none

/-- The verdict of a record, where it has one. -/
def verdictOf (p : Part) : Option Verdict :=
  match p.st with
  | .await => none
  | .routed v _ | .fired v _ | .stranded v _ _ => some v

/-- The target of a record, where it has one. -/
def targetOf (p : Part) : Option Target :=
  match p.st with
  | .await => none
  | .routed _ t | .fired _ t => some t
  | .stranded _ t _ => t

/-- The strand reason of a record, where it has one. -/
def strandOf (p : Part) : Option StrandReason :=
  match p.st with
  | .stranded _ _ why => some why
  | _ => none

/-- The two words of D: the absent value where the record carries none (R224, R226). -/
def dWords (p : Part) : List Word16 :=
  match (verdictOf p).bind deviationIn with
  | some x => signed32 x.d
  | none => words32 absentD

/-- The CLAMPED and TNONE bits of a record: clear where there is no deviation (R75, R204). -/
def verdictFlags (p : Part) : Byte :=
  match (verdictOf p).bind deviationIn with
  | some x => bitAt 0 x.clamped ||| bitAt 1 x.tnone
  | none => 0

/-- The class and bin word: absent where there is no verdict (R224). -/
def classWord (p : Part) : Word16 :=
  match verdictOf p with
  | some v => wordOf (classByte v) (binByte v)
  | none => wordOf absentByte absentByte

/-- The target lane and route kind word: absent where there is no target (R224). -/
def targetWord (p : Part) : Word16 :=
  match targetOf p with
  | some t => wordOf (laneByte t.lane) (routeKindByte t.kind)
  | none => wordOf absentByte absentByte

/-- The strand reason byte: absent where there is none (R224). -/
def reasonByte (p : Part) : Byte :=
  match strandOf p with
  | some why => strandByte why
  | none => absentByte

/-- The temperature copy word: the absent value for none (R224). -/
def tempWord : Option Int → Word16
  | some t => BitVec.ofInt 16 t
  | none => absentTemp

/-- The overload flag as bit 7 and the range code as bits 2 to 0 of a byte (R224, g1). -/
def rangeByte (overload : Bool) (range : BitVec 3) : Byte := bitAt 7 overload ||| range.setWidth 8

/-- The words g1 to g3 of a reading. -/
def readingWords (r : Reading) : List Word16 :=
  [wordOf (rangeByte r.overload r.range) (r.n.extractLsb' 16 8), r.n.extractLsb' 0 16, tempWord r.temp]

/-- A reading group of a format-2 PART report (R205, R224, R226). -/
def readingGroup (x : StationNo × Slot) : List Word16 :=
  wordOf (BitVec.ofNat 8 x.1.val) (slotStateByte x.2) ::
    (match x.2 with
      | .reading _ r => readingWords r
      | _ => [0, 0, 0])

/-! ## Outbound frames (R224) -/

/-- The inner words of a PART frame. -/
def partWords (r : PartReport) : List Word16 :=
  [wordOf (outcomeByte r.outcome) (BitVec.ofNat 8 r.pocket.val)] ++ words32 r.part.serial ++ [r.part.generation] ++
    words32 r.part.lot ++ [classWord r.part, targetWord r.part,
      wordOf (reasonByte r.part) (verdictFlags r.part ||| bitAt 2 r.purged ||| bitAt 7 r.formatTwo)] ++
    (if r.formatTwo then dWords r.part ++ r.readings.flatMap readingGroup else [])

/-- The words of an outbound frame, with its header and its check word (R219, R224). -/
def outWords : OutFrame → Frame
  | .part r => frameOf 0x41 (partWords r)
  | .reply tag kind a => frameOf 0x42 (wordOf tag kind :: wordOf (statusByte a.status) a.detail :: a.data)
  | .event flags => frameOf 0x43 [flags.setWidth 16]

/-! ## The data of QUERY replies (R225) -/

/-- The STATUS data (R193, R225). -/
def statusWords (s : State) : List Word16 :=
  [wordOf (trackerStateByte s.trk.st)
      (bitAt 0 s.mask.masked ||| bitAt 1 s.mask.slip ||| bitAt 2 s.mask.reverse ||| bitAt 3 s.mask.forced |||
        bitAt 4 (!s.mask.auto) ||| bitAt 5 s.loadPause ||| bitAt 6 s.banks.lock ||| bitAt 7 s.report.formatMark),
   BitVec.ofNat 16 s.trk.pos,
   wordOf (BitVec.ofNat 8 s.mask.clean) (BitVec.ofNat 8 s.mask.n),
   wordOf (bankByte s.banks.live)
      (bitAt 0 s.banks.a.table.loaded ||| bitAt 1 s.banks.b.table.loaded |||
        (if s.report.formatTwo then 0x20 else 0x10)),
   wordOf (BitVec.ofNat 8 s.banks.a.inUse) (BitVec.ofNat 8 s.banks.b.inUse),
   s.banks.generation,
   s.events.flags.setWidth 16,
   wordOf (BitVec.ofNat 8 (s.inbound.length - 1))
      (BitVec.ofNat 8 s.report.queue.length)]

/-- POCKET part 0 (R194, R225). The generation and lot code of a FREE record have no absent encoding: free values. -/
def pocketWords (s : State) (k : PocketNo) : List Word16 :=
  match s.ring[k] with
  | some p =>
    [wordOf (partStateByte p.st) (bankByte p.bank)] ++ words32 p.serial ++ [p.generation] ++ words32 p.lot ++
      [classWord p] ++ dWords p ++ [targetWord p, wordOf (reasonByte p) (verdictFlags p)]
  | none =>
    [wordOf 0 absentByte, 0, 0, Config.absentGeneration s.choice] ++ words32 (Config.absentLot s.choice) ++
      [wordOf absentByte absentByte] ++ words32 absentD ++
      [wordOf absentByte absentByte, wordOf absentByte 0]

/-- The sequence number a slot was issued with, where one was. -/
def slotSeq : Slot → Option (BitVec 8)
  | .waiting | .skipped => none
  | .outstanding q | .contact q _ | .reading q _ => some q
  | .expired q => q

/-- The words d2 to d6 of a POCKET slot reply (R194, R225). The reading of a received CONTACT slot has no stated value: free
values, with the absent temperature copy (log 9); nor has the number of a slot issued with none (log 31). DESIGN CHOICE: the
high byte of d3 is 01 wherever a number was issued, as the table of R225 says, also for a slot that is not RECEIVED, for
which a sentence of R225 says 0 (log 31). -/
def slotWords (c : Nat) : Option Slot → List Word16
  | none => [wordOf absentByte 0, wordOf 0 absentByte, 0, 0, 0]
  | some x =>
    [wordOf (slotStateByte x) ((slotSeq x).getD (Config.unissuedNumber c)),
     wordOf (bitAt 0 (slotSeq x).isSome) (match x with | .contact _ st => contactStatusByte st | _ => absentByte)] ++
      (match x with
        | .reading _ r => readingWords r
        | .contact _ _ =>
          [wordOf (rangeByte (Config.contactOverload c) (Config.contactRange c))
              ((Config.contactReading c).extractLsb' 16 8),
            (Config.contactReading c).extractLsb' 0 16, absentTemp]
        | _ => [0, 0, 0])

/-- POCKET parts 1 to 4 (R194, R225). -/
def pocketSlotWords (s : State) (k : PocketNo) (m : StationNo) : List Word16 :=
  match s.ring[k] with
  | some p => words32 p.serial ++ slotWords s.choice p.slots[m]
  | none => [0, 0] ++ slotWords s.choice none

/-- BANK-ENTRY, index 0 to 23 (R114, R225). An UNSET entry holds no limits: free values. -/
def entryWords (s : State) : Option BinEntry → List Word16
  | some e => [wordOf 1 (routeByte e.route)] ++ signed32 e.lo ++ signed32 e.hi
  | none => [wordOf 0 absentByte] ++ words32 (Config.unsetLow s.choice) ++ words32 (Config.unsetHigh s.choice)

/-- BANK-ENTRY, index 24 (R114, R225). -/
def headerWords (b : Bank) : List Word16 :=
  [wordOf (bitAt 0 b.table.loaded) (BitVec.ofNat 8 b.table.nb), b.table.range.setWidth 16] ++ words32 b.table.lot ++
    words32 (BitVec.ofNat 32 b.table.nexp) ++ [BitVec.ofInt 16 b.table.tcr, BitVec.ofNat 16 b.table.guard] ++
    words32 (BitVec.ofNat 32 b.table.stability) ++ [b.generation]

/-- BANK-ENTRY, index 25 (R114, R225). -/
def routeWords (t : Table) : List Word16 :=
  [t.routeOut, t.routeContact, t.routeMissing, t.routeInvalid, t.routeUnstable].map fun r => wordOf 0 (routeByte r)

/-- The option bits of a lane (R220). -/
def optionBits (u : LaneSetup) : Byte :=
  bitAt 0 u.activeLow ||| bitAt 1 u.safeLow ||| bitAt 2 u.safeHigh ||| bitAt 3 u.confirm

/-- LANE (R136, R225). -/
def laneWords (s : State) (l : LaneNo) : List Word16 :=
  let L := s.lanes[l]
  [wordOf (laneAttrByte L.attr)
      (bitAt 0 (laneFull L) ||| bitAt 1 (s.overflow == some l) ||| (BitVec.ofNat 8 L.queue.length <<< 4)),
   BitVec.ofNat 16 L.capacity, BitVec.ofNat 16 L.delivered, BitVec.ofNat 16 L.reserved,
   wordOf (routeByte L.setup.partner) (BitVec.ofNat 8 L.setup.offset),
   BitVec.ofNat 16 L.setup.firePhase, BitVec.ofNat 16 L.setup.width, BitVec.ofNat 16 L.setup.firstShot,
   BitVec.ofNat 16 L.setup.restDist, BitVec.ofNat 16 L.setup.tailTrim, BitVec.ofNat 16 L.setup.window,
   wordOf 0 (optionBits L.setup)]

/-- The entries a TALLY query returns: from the first, up to the count asked for, 6, and the end of the table (R195). -/
def tallySpan (first count : Nat) : Nat := min count (min 6 (49 - first))

/-- TALLY (R195, R225). -/
def tallyWords (s : State) (first n : Nat) : List Word16 :=
  ((s.tally.toList.drop first).take n).flatMap fun x => words32 (BitVec.ofNat 32 x)

/-- COUNTERS (R196, R225). -/
def counterWords (c : Counters) : List Word16 :=
  [c.runt, c.badSum, c.overrun, c.late, c.duplicate, c.unexpected, c.stray, c.ejectMiss, c.reportDrop].map
    (BitVec.ofNat 16)

end Sys2Proof.Machine
end

