-- ==== Sys2Proof/Machine/Query.lean ====
section
/-!
DEFINITION. QUERY (R192 to R196, R114, R136). A QUERY changes nothing but the queues its frame and its REPLY pass through, and
the model's counter of free values where its data holds one.

A QUERY frame with an undefined selector or a wrong length is answered by whichever QUERY command meets it (R192; log 15).
-/

namespace Sys2Proof.Machine

/-- The selector byte is the given selector, or no selector at all (log 15). -/
def queryArg (x : Selector) (c : Byte) : Bool := selectorOf c == some x || (selectorOf c).isNone

/-- A frame whose selector is none of the six is refused BAD-ARG (R192). -/
def forSelector (x : Selector) (f : Frame) (s : State) (go : State × Answer) : State × Answer :=
  if selectorOf (firstArg f) = some x then go else (s, answer .badArg)

/-- An answer OK with data. -/
def answerData (ws : List Word16) : Answer := { status := .ok, data := ws }

/-- The state after free values have been read. -/
def afterFree (s : State) : State := s.setChoice (s.choice + 1)

/-- STATUS (R193). -/
def actQueryStatus (f : Frame) (s : State) : State × Answer :=
  forSelector .status f s (s, answerData (statusWords s))

/-- QUERY_STATUS. -/
def execQueryStatus (s : State) : Host.Outcome State Fault Refusal :=
  .next (takeUp .query (queryArg .status) actQueryStatus (settled s))

/-- POCKET (R194). -/
def actQueryPocket (f : Frame) (s : State) : State × Answer :=
  forSelector .pocket f s
    (if h : (word f 2).toNat < 128 then
      let k : PocketNo := ⟨(word f 2).toNat, h⟩
      if word f 3 = 0 then (afterFree s, answerData (pocketWords s k))
      else if h2 : (word f 3).toNat - 1 < 4 then
        (afterFree s, answerData (pocketSlotWords s k ⟨(word f 3).toNat - 1, h2⟩))
      else (s, answer .badArg)
    else (s, answer .badArg))

/-- QUERY_POCKET. -/
def execQueryPocket (s : State) : Host.Outcome State Fault Refusal :=
  .next (takeUp .query (queryArg .pocket) actQueryPocket (settled s))

/-- BANK-ENTRY (R114). -/
def actQueryBankEntry (f : Frame) (s : State) : State × Answer :=
  forSelector .bankEntry f s
    (match bankOf (word f 2) with
    | none => (s, answer .badArg)
    | some id =>
      let bank := bankAt s.banks id
      if h : (word f 3).toNat < 24 then
        (afterFree s, answerData (entryWords s bank.table.entries[(word f 3).toNat]))
      else if word f 3 = 24 then (s, answerData (headerWords bank))
      else if word f 3 = 25 then (s, answerData (routeWords bank.table))
      else (s, answer .badArg))

/-- QUERY_BANK_ENTRY. -/
def execQueryBankEntry (s : State) : Host.Outcome State Fault Refusal :=
  .next (takeUp .query (queryArg .bankEntry) actQueryBankEntry (settled s))

/-- LANE (R136). -/
def actQueryLane (f : Frame) (s : State) : State × Answer :=
  forSelector .lane f s
    (if h : (word f 2).toNat < 16 then (s, answerData (laneWords s ⟨(word f 2).toNat, h⟩))
    else (s, answer .badArg))

/-- QUERY_LANE. -/
def execQueryLane (s : State) : Host.Outcome State Fault Refusal :=
  .next (takeUp .query (queryArg .lane) actQueryLane (settled s))

/-- TALLY (R195): ADJUSTED when fewer entries are returned than asked for, with their number in the detail byte. -/
def actQueryTally (f : Frame) (s : State) : State × Answer :=
  forSelector .tally f s
    (let first := (word f 2).toNat
    let count := (loByte (word f 3)).toNat
    if first ≤ 48 ∧ count ≠ 0 then
      let n := tallySpan first count
      (s, { status := if n < count then .adjusted else .ok, detail := BitVec.ofNat 8 n, data := tallyWords s first n })
    else (s, answer .badArg))

/-- QUERY_TALLY. -/
def execQueryTally (s : State) : Host.Outcome State Fault Refusal :=
  .next (takeUp .query (queryArg .tally) actQueryTally (settled s))

/-- COUNTERS (R196). -/
def actQueryCounters (f : Frame) (s : State) : State × Answer :=
  forSelector .counters f s (s, answerData (counterWords s.counters))

/-- QUERY_COUNTERS. -/
def execQueryCounters (s : State) : Host.Outcome State Fault Refusal :=
  .next (takeUp .query (queryArg .counters) actQueryCounters (settled s))

end Sys2Proof.Machine
end

