-- ==== Sys2Proof/Machine/Report.lean ====
section
/-!
DEFINITION. The R-link transmitter and the places of the report queue (R200 to R203, R213): PENDING_NOTICE_ADMIT,
TRANSMIT_START, RHOLD_ASSERT and TRANSMIT_COMPLETE.
-/

namespace Sys2Proof.Machine

/-- PENDING_NOTICE_ADMIT. -/
def execPendingNoticeAdmit (s : State) : Host.Outcome State Fault Refusal := .next (admitHanded s)

/-- The transmitter, IDLE, starts the head frame where a frame waits (R201). -/
def startSending (s : State) : State :=
  if s.tx.sending = false ∧ s.report.queue ≠ [] then s.setTx { sending := true, sent := 0, bits := 0 } else s

/-- The frame in progress is abandoned: the transmitter returns to IDLE, and the frame stays at the head (R202). -/
def abandon (s : State) : State := if s.tx.sending then s.setTx Transmitter.reset else s

/-- RHOLD at a level: asserted, it abandons the frame in progress and starts none; deasserted, it lets the head frame
start (R201, R202). -/
def takeRhold (rhold : Bool) (s : State) : State :=
  let t := s.setPins { s.pins with rhold := rhold }
  if rhold then abandon t else startSending t

/-- TRANSMIT_START, with the level of RHOLD that it samples. -/
def execTransmitStart (rhold : Bool) (s : State) : Host.Outcome State Fault Refusal := .next (takeRhold rhold (opened s))

/-- RHOLD_ASSERT. -/
def execRholdAssert (s : State) : Host.Outcome State Fault Refusal :=
  .next (takeRhold true s)

/-- The place that a frame leaves is handed to the waiter that began waiting first, or left free (R200, R203): the pending
notice, or the frame at which the processor was stalled when the event began. The notice is admitted in the same event
(R213), by `admitHanded` (log 17). -/
def handPlace (s : State) : State :=
  if s.events.noticePending ∧ (s.events.noticeFirst ∨ s.report.stalled = false) then
    s.setReport { s.report with noticePlace := true }
  else if s.report.stalled then s.setReport { s.report with replyPlace := true }
  else s

/-- The completion of the head frame: it leaves the queue, the transmitter returns to IDLE, and the place it held is handed
on (R203). DESIGN CHOICE: the table has no command for a bit or a word, so the completion is taken at any count of bits
sent; the bits not yet counted have been sent in the time before it (log 11). -/
def completeFrame (s : State) : State :=
  if s.tx.sending then
    match s.report.queue with
    | [] => s.setTx Transmitter.reset
    | _ :: rest => handPlace ((s.setTx Transmitter.reset).setReport { s.report with queue := rest })
  else s

/-- TRANSMIT_COMPLETE. -/
def execTransmitComplete (s : State) : Host.Outcome State Fault Refusal := .next (completeFrame (opened s))

end Sys2Proof.Machine
end

