-- ==== Sys2Proof/Machine/Results.lean ====
section
/-!
DEFINITION. The frames that are executed without a REPLY: FILLER (R183), RESULT (R60 to R66), TEMP (R71) and, at length 2,
a frame of unknown kind (R184); and a frame of unknown kind at length 3 and more, which is answered UNKNOWN-KIND.
-/

namespace Sys2Proof.Machine

/-- The processor takes a frame of a kind without REPLY from the head of the inbound queue: it is executed and then leaves the
queue (R183). With another frame at the head, or none, nothing happens. -/
def takeQuiet (k : Kind) (act : Frame → State → State) (s : State) : State :=
  match s.inbound with
  | [] => s
  | f :: _ => if frameCode f = kindCode k then dropHead (act f s) else s

/-- FILLER: discarded, whatever it holds (R183). -/
def execFiller (s : State) : Host.Outcome State Fault Refusal := .next (takeQuiet .filler (fun _ t => t) (settled s))

/-! ## RESULT -/

/-- A result as R60's first row accepts it: contact-type or reading-type. -/
inductive ResultValue where
  | contact (status : ContactStatus)
  | reading (n : BitVec 24) (range : BitVec 3) (overload : Bool)
deriving DecidableEq, Repr

/-- The value a RESULT frame carries for a station of a role; `none` where R60's first row holds, the station number
apart: no role, another type than the role's, an undefined contact status, or a set bit among bits 6 to 3 of a reading's
result byte (R60, R220, R223). -/
def resultValue (role : Role) (f : Frame) : Option ResultValue :=
  let kind := hiByte (word f 2)
  let b := loByte (word f 2)
  match role with
  | .none => none
  | .contact => if kind = 0 then (contactStatusOf b).map .contact else none
  | .prec =>
    if kind = 1 ∧ b.extractLsb' 3 4 = 0 then
      some (.reading (loByte (word f 3) ++ word f 4) (b.extractLsb' 0 3) (b.getLsbD 7))
    else none

/-- The received slot an accepted result leaves, with the copy of the station's held temperature (R61, R62). -/
def receivedSlot (q : BitVec 8) (temp : Option Int) : ResultValue → Slot
  | .contact st => .contact q st
  | .reading n range overload => .reading q { n := n, range := range, overload := overload, temp := temp }

/-- The pocket records in order of number. -/
def allPockets : List PocketNo := List.finRange 128

/-- A record is AWAIT with a station's slot OUTSTANDING under a sequence number (R60, row 2). -/
def waitsFor (s : State) (m : StationNo) (q : BitVec 8) (k : PocketNo) : Bool :=
  match s.ring[k] with
  | some p => p.st == .await && p.slots[m] == some (.outstanding q)
  | none => false

/-- A record not FREE holds RECEIVED in a station's slot with a sequence number (R60, row 4). -/
def hasReceived (s : State) (m : StationNo) (q : BitVec 8) (k : PocketNo) : Bool :=
  match s.ring[k] with
  | some p =>
    match p.slots[m] with
    | some (.contact q' _) | some (.reading q' _) => q' == q
    | _ => false
  | none => false

/-- Rows 2 to 5 of R60 for a result of a station, its sequence number and its value: accepted (R61 to R63), LATE (R64),
DUPLICATE (R65) or UNEXPECTED (R66). -/
def fileResult (m : StationNo) (q : BitVec 8) (v : ResultValue) (s : State) : State :=
  match allPockets.find? (waitsFor s m q) with
  | some k => writeSlot k m (receivedSlot q s.stations[m].temp v) s
  | none =>
    if (s.stations[m].expired).contains q then raise .late (countLate s)
    else if allPockets.any (hasReceived s m q) then countDuplicate s
    else countUnexpected s

/-- A RESULT frame at the station sequencer (R60), with the processor's length check before it (R184). -/
def takeResult (f : Frame) (s : State) : State :=
  if lengthFits .result f then
    match stationOf (hiByte (word f 1)) with
    | none => countUnexpected s
    | some m =>
      match resultValue s.stations[m].role f with
      | none => countUnexpected s
      | some v => fileResult m (loByte (word f 1)) v s
  else countUnexpected s

/-- RESULT. -/
def execResult (s : State) : Host.Outcome State Fault Refusal := .next (takeQuiet .result takeResult (settled s))

/-! ## TEMP -/

/-- A held temperature lies in −640 to +2,000 (R71). -/
def clampTemp (t : Int) : Int := max (-640) (min t 2000)

/-- A TEMP frame at the station sequencer (R71), with the processor's length check before it (R184). -/
def takeTemp (f : Frame) (s : State) : State :=
  if lengthFits .temp f then
    match stationOf (hiByte (word f 1)) with
    | none => countUnexpected s
    | some m => modStation m (fun y => { y with temp := some (clampTemp (word f 2).toInt) }) s
  else countUnexpected s

/-- TEMP. -/
def execTemp (s : State) : Host.Outcome State Fault Refusal := .next (takeQuiet .temp takeTemp (settled s))

/-! ## Unknown kinds -/

/-- A frame of unknown kind at the head: counted UNEXPECTED at length 2, and answered UNKNOWN-KIND at length 3 and more, with
the wait for a place of R186 (R184). -/
def takeUnknown (s : State) : State :=
  match s.inbound with
  | [] => s
  | f :: _ =>
    if kindOf (frameCode f) = none then
      if declaredLength f = 2 then dropHead (countUnexpected s)
      else if placeForReply s then placeReply f (answer .unknownKind) (dropHead (keepPlace s))
      else s
    else s

/-- UNKNOWN_KIND. -/
def execUnknownKind (s : State) : Host.Outcome State Fault Refusal := .next (takeUnknown (settled s))

end Sys2Proof.Machine
end

