-- ==== Sys2Proof/Machine/Setup.lean ====
section
/-!
DEFINITION. The setup frames and the lane router's frames: GEOMETRY (R4), STATION (R53), LANE-SETUP (R130, R139),
LANE-STATE (R131 to R133) and LANE-EMPTY (R134).
-/

namespace Sys2Proof.Machine

/-- A frame accepted only in IDLE is answered BUSY in HOMING and TRACKING, after the lock's check (R4, R53, R130). -/
def inIdle (s : State) (go : State × Answer) : State × Answer :=
  unlessLocked s (if s.trk.st = .idle then go else (s, answer .busy))

/-! ## GEOMETRY -/

/-- A GEOMETRY frame's values within their ranges (R3, R4, R220). -/
def geometryFields (f : Frame) : Option Geometry :=
  let pn := (firstArg f).toNat
  let c := (dword f 3).toNat
  let offset := (word f 6).toNat
  if 8 ≤ pn ∧ pn ≤ 128 ∧ 512 ≤ c ∧ c ≤ 65536 ∧ offset < c then
    (edgeModeOf (loByte (word f 2))).map fun mode =>
      { pn := pn, c := c, mode := mode, h := (hiByte (word f 5)).toNat, ti := (loByte (word f 5)).toNat,
        indexOffset := offset, loadPhase := (word f 7).toNat, dumpOffset := (loByte (word f 8)).toNat }
  else none

/-- GEOMETRY at the tracker (R4). -/
def actGeometry (f : Frame) (s : State) : State × Answer :=
  inIdle s (match geometryFields f with
    | none => (s, answer .badArg)
    | some g => ((s.setGeo g).setTrk { s.trk with pos := 0 }, answer .ok))

/-- GEOMETRY. -/
def execGeometry (s : State) : Host.Outcome State Fault Refusal := .next (takeUp .geometry anyArg actGeometry (settled s))

/-! ## STATION -/

/-- The stations other than one that are PREC. -/
def otherPrecs (s : State) (m : StationNo) : Nat :=
  (allStations.filter fun x => x != m && s.stations[x].role == .prec).length

/-- A STATION frame's station and role (R53). -/
def stationRole (f : Frame) : Option (StationNo × Role) :=
  match stationOf (firstArg f), roleOf (hiByte (word f 2)) with
  | some m, some r => some (m, r)
  | _, _ => none

/-- A STATION frame's numeric fields lie within their ranges (R52). Trim and the skip flag are read for PREC only (R222). -/
def stationRanges (r : Role) (f : Frame) : Bool :=
  let offset := (hiByte (word f 3)).toNat
  let deadline := (loByte (word f 3)).toNat
  let trigPhase := (word f 4).toNat
  let width := (word f 5).toNat
  let trim := (dword f 6).toInt
  1 ≤ offset && offset ≤ 126 && 1 ≤ deadline && deadline ≤ 8 && trigPhase ≤ 8191 && 1 ≤ width && width ≤ 8191 &&
    (r != .prec || (-50000 ≤ trim && trim ≤ 50000 && (loByte (word f 2)).toNat ≤ 1))

/-- A station record with the setup a frame carries: the expired list is emptied, and the sequence counter and the held
temperature are kept (R53). -/
def setupStation (r : Role) (f : Frame) (x : Station) : Station :=
  { x with role := r, offset := (hiByte (word f 3)).toNat, deadline := (loByte (word f 3)).toNat,
           trigPhase := (word f 4).toNat, trigWidth := (word f 5).toNat,
           trim := if r = .prec then (dword f 6).toInt else 0, skip := r == .prec && loByte (word f 2) == 1,
           expired := [] }

/-- STATION at the station sequencer (R53). -/
def actStation (f : Frame) (s : State) : State × Answer :=
  inIdle s (match stationRole f with
    | none => (s, answer .badArg)
    | some (m, r) =>
      if stationRanges r f ∧ (r = .prec → otherPrecs s m < 2) then (modStation m (setupStation r f) s, answer .ok)
      else (s, answer .badArg))

/-- STATION. -/
def execStation (s : State) : Host.Outcome State Fault Refusal := .next (takeUp .station anyArg actStation (settled s))

/-! ## LANE-SETUP -/

/-- A LANE-SETUP frame's lane and setup within their ranges (R130, R138, R220). -/
def setupFields (f : Frame) : Option (LaneNo × LaneSetup) :=
  let offset := (loByte (word f 2)).toNat
  let fire := (word f 3).toNat
  let w := (word f 4).toNat
  let x := (word f 5).toNat
  let t := (word f 7).toNat
  let window := (word f 8).toNat
  let opts := loByte (word f 9)
  match laneOf (firstArg f), routeOf (hiByte (word f 2)) with
  | some l, some partner =>
    if 1 ≤ offset ∧ offset ≤ 126 ∧ fire ≤ 8191 ∧ 1 ≤ w ∧ w ≤ 32768 ∧ x ≤ 8192 ∧ t ≤ 8191 ∧ 1 ≤ window ∧
        window ≤ 32768 ∧ opts.extractLsb' 4 4 = 0 then
      some (l, { partner := partner, offset := offset, firePhase := fire, width := w, firstShot := x,
                 restDist := (word f 6).toNat, tailTrim := t, activeLow := opts.getLsbD 0, safeLow := opts.getLsbD 1,
                 safeHigh := opts.getLsbD 2, confirm := opts.getLsbD 3, window := window })
    else none
  | _, _ => none

/-- LANE-SETUP at the lane router and the jet drivers (R130, R139). -/
def actLaneSetup (f : Frame) (s : State) : State × Answer :=
  inIdle s (match setupFields f with
    | none => (s, answer .badArg)
    | some (l, u) => (modLane l (fun L => { L with setup := u }) s, answer .ok))

/-- LANE_SETUP. -/
def execLaneSetup (s : State) : Host.Outcome State Fault Refusal := .next (takeUp .laneSetup anyArg actLaneSetup (settled s))

/-! ## LANE-STATE -/

/-- What a LANE-STATE frame asks for (R131). -/
structure LaneOrder where
  lane : LaneNo
  attr : LaneAttr
  action : OverflowAction
  capacity : Nat
deriving DecidableEq, Repr

/-- A LANE-STATE frame's fields within their encodings (R131). -/
def laneOrderOf (f : Frame) : Option LaneOrder :=
  match laneOf (firstArg f), laneAttrOf (hiByte (word f 2)), overflowActionOf (loByte (word f 2)) with
  | some l, some a, some o => some { lane := l, attr := a, action := o, capacity := (word f 3).toNat }
  | _, _, _ => none

/-- Every station with a role has its offset plus its deadline below a lane's offset (R133). -/
def laneClearsStations (s : State) (l : LaneNo) : Bool :=
  allStations.all fun m =>
    s.stations[m].role == .none || s.stations[m].offset + s.stations[m].deadline < s.lanes[l].setup.offset

/-- The capacity a write leaves for the sum of the lane's counts (R132). -/
def fitCapacity (asked sum : Nat) : Nat :=
  if asked = 0 ∨ sum ≤ asked then asked else if sum ≤ 65535 then sum else 0

/-- The overflow designation after an action (R132). -/
def overflowAfter (action : OverflowAction) (l : LaneNo) (now : Route) : Route :=
  match action with
  | .keep => now
  | .designate => some l
  | .release => if now = some l then none else now

/-- An accepted LANE-STATE (R132): the attribute, the capacity fitted to the sum with the LANE-FULL flag where that fills the
lane, and the overflow action. -/
def applyLaneOrder (o : LaneOrder) (s : State) : State × Answer :=
  let L := s.lanes[o.lane]
  let cap := fitCapacity o.capacity (L.delivered + L.reserved)
  let t := modLane o.lane (fun M => { M with attr := o.attr, capacity := cap }) s
  let u := if !laneFull L && laneFull t.lanes[o.lane] then raise .laneFull t else t
  (u.setOverflow (overflowAfter o.action o.lane u.overflow), answer (if cap = o.capacity then .ok else .adjusted))

/-- The detail of a BAD-GEOMETRY answer: the check in the high four bits, the station or lane in the low four (R225). -/
def checkDetail (check unit : Nat) : Byte := BitVec.ofNat 8 (check * 16 + unit)

/-- LANE-STATE at the lane router (R131 to R133). -/
def actLaneState (f : Frame) (s : State) : State × Answer :=
  match laneOrderOf f with
  | none => (s, answer .badArg)
  | some o =>
    if s.trk.st ≠ .idle ∧ s.lanes[o.lane].attr = .disabled ∧ o.attr ≠ .disabled ∧ laneClearsStations s o.lane = false then
      (s, { status := .badGeometry, detail := checkDetail 11 o.lane.val })
    else applyLaneOrder o s

/-- LANE_STATE. -/
def execLaneState (s : State) : Host.Outcome State Fault Refusal := .next (takeUp .laneState anyArg actLaneState (settled s))

/-- LANE-EMPTY at the lane router (R134). -/
def actLaneEmpty (f : Frame) (s : State) : State × Answer :=
  match laneOf (firstArg f) with
  | none => (s, answer .badArg)
  | some l => (modLane l (fun L => { L with delivered := 0 }) s, answer .ok)

/-- LANE_EMPTY. -/
def execLaneEmpty (s : State) : Host.Outcome State Fault Refusal := .next (takeUp .laneEmpty anyArg actLaneEmpty (settled s))

end Sys2Proof.Machine
end

