-- ==== Sys2Proof/Machine/RunControl.lean ====
section
/-!
DEFINITION. RUN-CONTROL: START with its checks (R188, R189), STOP (R190), PAUSE-LOAD and RESUME-LOAD (R50),
RUN-RESET (R191, R217); and FULL_RESET (R24, R51, R73, R115, R137, R162, R177, R197, R218).

Each RUN-CONTROL command takes up the frames that carry its order. A RUN-CONTROL frame with an undefined order or a wrong
length is answered by whichever of the commands meets it at the head of the inbound queue (R184, R187; log 15).
-/

namespace Sys2Proof.Machine

/-- The order byte is the given order, or no order at all (log 15). -/
def runArg (o : RunOrder) (c : Byte) : Bool := runOrderOf c == some o || (runOrderOf c).isNone

/-- A frame whose order is not the one expected is refused BAD-ARG (R187). -/
def forRunOrder (o : RunOrder) (f : Frame) (s : State) (go : State × Answer) : State × Answer :=
  if runOrderOf (firstArg f) = some o then go else (s, answer .badArg)

/-! ## START -/

/-- The first station with a role that fails a relation. -/
def failingStation (s : State) (bad : Station → Bool) : Option Nat :=
  (allStations.find? fun m => s.stations[m].role != .none && bad s.stations[m]).map (·.val)

/-- The first lane that fails a relation. -/
def failingLane (s : State) (bad : Lane → Bool) : Option Nat := (allLanes.find? fun l => bad s.lanes[l]).map (·.val)

/-- A failed check without a station or lane number. -/
def checkThat (n : Nat) (good : Bool) : Option (Nat × Nat) := if good then none else some (n, 0)

/-- A failed check with the number of the station or lane that failed it. -/
def checkEach (n : Nat) (failing : Option Nat) : Option (Nat × Nat) := failing.map fun u => (n, u)

/-- The station's offset plus its deadline is not below the offset of some lane not DISABLED. -/
def meetsLane (s : State) (x : Station) : Bool :=
  allLanes.any fun l => s.lanes[l].attr != .disabled && s.lanes[l].setup.offset ≤ x.offset + x.deadline

/-- The checks of R188 in their order, each with what it reports when it fails. -/
def startChecks (s : State) : List (Option (Nat × Nat)) :=
  let g := s.geo
  let p := pitch g
  [checkThat 1 (g.c % g.pn == 0),
   checkThat 2 (16 ≤ p),
   checkThat 3 (2 * g.h < p),
   checkThat 4 (2 * g.ti < p),
   checkThat 5 (g.ti ≤ g.indexOffset % p && g.indexOffset % p + g.ti + 1 ≤ p),
   checkThat 6 (g.loadPhase + 1 ≤ p),
   checkThat 7 (g.dumpOffset + 1 ≤ g.pn),
   checkThat 8 (allStations.any fun m => s.stations[m].role == .prec),
   checkEach 9 (failingStation s fun x => g.pn < x.offset + 2),
   checkEach 10 (failingStation s fun x => p < x.trigPhase + 1 || p < x.trigWidth + 1),
   checkEach 11 (failingStation s (meetsLane s)),
   checkEach 12 (failingLane s fun L => g.dumpOffset ≤ L.setup.offset),
   checkEach 13 (failingLane s fun L =>
     p < L.setup.firePhase + 1 || 4 * p < L.setup.width || 4 * p < L.setup.window || p < L.setup.firstShot ||
       p < L.setup.tailTrim + 1),
   checkThat 14 (bankAt s.banks s.banks.live).table.loaded]

/-- The first check that fails (R188, R189). -/
def firstFailed (s : State) : Option (Nat × Nat) := (startChecks s).findSome? id

/-- START at the tracker (R13, R187 to R189). -/
def actStart (f : Frame) (s : State) : State × Answer :=
  forRunOrder .start f s
    (if s.trk.st ≠ .idle then (s, answer .wrongState)
    else match firstFailed s with
      | some (n, u) => (s, { status := .badGeometry, detail := checkDetail n u })
      | none => (s.setTrk { s.trk with st := .homing }, answer .ok))

/-- START. -/
def execStart (s : State) : Host.Outcome State Fault Refusal := .next (takeUp .runControl (runArg .start) actStart (settled s))

/-! ## STOP and the load pause -/

/-- STOP at the tracker (R187, R190). -/
def actStop (f : Frame) (s : State) : State × Answer :=
  forRunOrder .stop f s
    (if s.trk.st = .idle then (s, answer .wrongState) else (announceIdle true s, answer .ok))

/-- STOP. -/
def execStop (s : State) : Host.Outcome State Fault Refusal := .next (takeUp .runControl (runArg .stop) actStop (settled s))

/-- PAUSE-LOAD at the pocket ring (R50). -/
def actPauseLoad (f : Frame) (s : State) : State × Answer :=
  forRunOrder .pauseLoad f s (s.setLoadPause true, answer .ok)

/-- PAUSE_LOAD. -/
def execPauseLoad (s : State) : Host.Outcome State Fault Refusal :=
  .next (takeUp .runControl (runArg .pauseLoad) actPauseLoad (settled s))

/-- RESUME-LOAD at the pocket ring (R50). -/
def actResumeLoad (f : Frame) (s : State) : State × Answer :=
  forRunOrder .resumeLoad f s (s.setLoadPause false, answer .ok)

/-- RESUME_LOAD. -/
def execResumeLoad (s : State) : Host.Outcome State Fault Refusal :=
  .next (takeUp .runControl (runArg .resumeLoad) actResumeLoad (settled s))

/-! ## RUN-RESET -/

/-- A station after a run reset (R73). -/
def runResetStation (x : Station) : Station := { x with seq := 0, temp := none, expired := [], pulseEnd := none }

/-- The run reset of every block but the REPLY (R191): the announcement of IDLE with a purge that reports nothing (R48), the
station sequencer's values (R73), the inbound queue emptied, the counters zeroed (R196), and the report queue, the
transmitter and the event block as R217 states. -/
def runResetState (s : State) : State :=
  let s1 := announceIdle false s
  let s2 := ((s1.setStations (s1.stations.map runResetStation)).setInbound []).setCounters Counters.reset
  ((s2.setTx Transmitter.reset).setReport
      { s2.report with queue := [], replyPlace := false, noticePlace := false, stalled := false }).setEvents
    { s2.events with flags := 0, noticePending := false, noticeFirst := false }

/-- A RUN-RESET frame: executed whatever the report queue holds, its REPLY OK the first frame of the emptied
queue (R191, R217). -/
def takeRunReset (f : Frame) (s : State) : State := placeReply f (answer .ok) (runResetState s)

/-- A RUN-CONTROL frame that is refused for its order or its length (R184, R187). -/
def actBadOrder (_ : Frame) (s : State) : State × Answer := (s, answer .badArg)

/-- RUN-RESET at the head of the inbound queue; an undefined order or a wrong length is answered as for the other orders. -/
def runReset (s : State) : State :=
  match s.inbound with
  | [] => s
  | f :: _ =>
    if isRunReset f then takeRunReset f s else takeUp .runControl (fun c => (runOrderOf c).isNone) actBadOrder s

/-- RUN_RESET. -/
def execRunReset (s : State) : Host.Outcome State Fault Refusal := .next (runReset (settled s))

/-! ## FULL_RESET -/

/-- RSTN low, or power-up, and its release: every block at its full-reset values, with the levels sampled at the release.
The lines PPS and RHOLD are outside the part and keep their levels; the commands that wait are the model's own (log 2). -/
def fullReset (enca encb mfs : Bool) (s : State) : State :=
  { State.atRelease enca encb mfs with
      pins := { pps := s.pins.pps, mfs := mfs, rhold := s.pins.rhold }, choice := s.choice, pending := s.pending }

/-- FULL_RESET. -/
def execFullReset (enca encb mfs : Bool) (s : State) : Host.Outcome State Fault Refusal :=
  .next (fullReset enca encb mfs s)

end Sys2Proof.Machine
end

