-- ==== Sys2Proof/Machine/Tables.lean ====
section
/-!
DEFINITION. The bank store's frames: BANK-HEADER, BIN-ENTRY, SPECIAL-ROUTE (R96 to R99), BANK-SWAP (R104, R105) and
LOCK (R111).
-/

namespace Sys2Proof.Machine

/-- The STAGING bank. -/
def stagingBank (bs : BankStore) : Bank := bankAt bs (stagingId bs)

/-- Replace the table contents of the STAGING bank. -/
def writeStaging (t : Table) (s : State) : State := modBank (stagingId s.banks) (fun k => { k with table := t }) s

/-- A BANK-HEADER's fields within their ranges, as the table they make: every entry UNSET and every special route
none (R97). -/
def headerTable (f : Frame) : Option Table :=
  let nexp := (dword f 5).toNat
  let range := loByte (word f 2)
  let tcr := (word f 7).toInt
  let guard := (word f 8).toNat
  let stability := (dword f 9).toNat
  let nb := (firstArg f).toNat
  if 1048576 ≤ nexp ∧ nexp ≤ 8000000 ∧ range.toNat ≤ 7 ∧ -5000 ≤ tcr ∧ tcr ≤ 5000 ∧ guard ≤ 10000 ∧
      stability ≤ 100000 ∧ 1 ≤ nb ∧ nb ≤ 24 then
    some { Table.reset with loaded := true, lot := dword f 3, nexp := nexp, range := range.extractLsb' 0 3, tcr := tcr,
                            guard := guard, stability := stability, nb := nb }
  else none

/-- A BIN-ENTRY's index and entry within their ranges (R98). -/
def entryFields (f : Frame) : Option (Fin 24 × BinEntry) :=
  let lo := (dword f 2).toInt
  let hi := (dword f 4).toInt
  if h : (firstArg f).toNat < 24 then
    if -10000000 ≤ lo ∧ lo ≤ 10000000 ∧ -10000000 ≤ hi ∧ hi ≤ 10000000 ∧ lo ≤ hi then
      (routeOf (loByte (word f 6))).map fun r => (⟨(firstArg f).toNat, h⟩, { lo := lo, hi := hi, route := r })
    else none
  else none

/-- A SPECIAL-ROUTE's class and route (R99). -/
def specialFields (f : Frame) : Option (SpecialClass × Route) :=
  match specialClassOf (firstArg f), routeOf (loByte (word f 2)) with
  | some c, some r => some (c, r)
  | _, _ => none

/-- A table with one special route replaced (R99). -/
def setSpecial (c : SpecialClass) (r : Route) (t : Table) : Table :=
  match c with
  | .out => { t with routeOut := r }
  | .contact => { t with routeContact := r }
  | .missing => { t with routeMissing := r }
  | .invalid => { t with routeInvalid := r }
  | .unstable => { t with routeUnstable := r }

/-- The checks of R96 in their order, and then the write. A write that edits a table needs a LOADED bank. -/
def bankWrite (s : State) (edits : Bool) (write : Option (Table → Table)) : State × Answer :=
  unlessLocked s
    (if 0 < (stagingBank s.banks).inUse then (s, answer .busy)
    else match write with
      | none => (s, answer .badArg)
      | some g =>
        if edits ∧ (stagingBank s.banks).table.loaded = false then (s, answer .wrongState)
        else (writeStaging (g (stagingBank s.banks).table) s, answer .ok))

/-- BANK-HEADER at the bank store (R96, R97). -/
def actBankHeader (f : Frame) (s : State) : State × Answer :=
  bankWrite s false ((headerTable f).map fun t _ => t)

/-- BANK_HEADER. -/
def execBankHeader (s : State) : Host.Outcome State Fault Refusal := .next (takeUp .bankHeader anyArg actBankHeader (settled s))

/-- BIN-ENTRY at the bank store (R96, R98). -/
def actBinEntry (f : Frame) (s : State) : State × Answer :=
  bankWrite s true ((entryFields f).map fun x t => { t with entries := t.entries.set x.1 (some x.2) })

/-- BIN_ENTRY. -/
def execBinEntry (s : State) : Host.Outcome State Fault Refusal := .next (takeUp .binEntry anyArg actBinEntry (settled s))

/-- SPECIAL-ROUTE at the bank store (R96, R99). -/
def actSpecialRoute (f : Frame) (s : State) : State × Answer :=
  bankWrite s true ((specialFields f).map fun x t => setSpecial x.1 x.2 t)

/-- SPECIAL_ROUTE. -/
def execSpecialRoute (s : State) : Host.Outcome State Fault Refusal :=
  .next (takeUp .specialRoute anyArg actSpecialRoute (settled s))

/-- The swap of R105: the generation counter advances, the STAGING bank takes its value and becomes LIVE. -/
def swapBanks (s : State) : State :=
  let g := s.banks.generation + 1
  let t := modBank (stagingId s.banks) (fun k => { k with generation := g }) s
  t.setBanks { t.banks with generation := g, live := stagingId s.banks }

/-- BANK-SWAP at the bank store (R104, R105). -/
def actBankSwap (_ : Frame) (s : State) : State × Answer :=
  unlessLocked s
    (if tableComplete (stagingBank s.banks).table then (swapBanks s, answer .ok) else (s, answer .incomplete))

/-- BANK_SWAP. -/
def execBankSwap (s : State) : Host.Outcome State Fault Refusal := .next (takeUp .bankSwap anyArg actBankSwap (settled s))

/-- LOCK at the bank store (R111). -/
def actLock (_ : Frame) (s : State) : State × Answer := (s.setBanks { s.banks with lock := true }, answer .ok)

/-- LOCK. -/
def execLock (s : State) : Host.Outcome State Fault Refusal := .next (takeUp .lock anyArg actLock (settled s))

end Sys2Proof.Machine
end

