-- ==== Sys2Proof/Machine/Dispatch.lean ====
section
/-! DEFINITION. One arm for each command of the opcode table, each a direct call of its meaning. -/

namespace Sys2Proof.Machine

def exec (i : Instr) (s : State) : Host.Outcome State Fault Refusal :=
  match i with
  | .encoderCount enca encb pps => Sys2Proof.Machine.execEncoderCount enca encb pps s
  | .indexEvent pps => Sys2Proof.Machine.execIndexEvent pps s
  | .slipMissingIndex => Sys2Proof.Machine.execSlipMissingIndex s
  | .triggerEnd m => Sys2Proof.Machine.execTriggerEnd m s
  | .deadlineExpiry m => Sys2Proof.Machine.execDeadlineExpiry m s
  | .runClose l => Sys2Proof.Machine.execRunClose l s
  | .restPoint l => Sys2Proof.Machine.execRestPoint l s
  | .windowEnd l => Sys2Proof.Machine.execWindowEnd l s
  | .drop l => Sys2Proof.Machine.execDrop l s
  | .pendingNoticeAdmit => Sys2Proof.Machine.execPendingNoticeAdmit s
  | .frameStart => Sys2Proof.Machine.execFrameStart s
  | .headerReceived => Sys2Proof.Machine.execHeaderReceived s
  | .mfsDeassert => Sys2Proof.Machine.execMfsDeassert s
  | .frameComplete => Sys2Proof.Machine.execFrameComplete s
  | .filler => Sys2Proof.Machine.execFiller s
  | .result => Sys2Proof.Machine.execResult s
  | .temp => Sys2Proof.Machine.execTemp s
  | .bankHeader => Sys2Proof.Machine.execBankHeader s
  | .binEntry => Sys2Proof.Machine.execBinEntry s
  | .specialRoute => Sys2Proof.Machine.execSpecialRoute s
  | .bankSwap => Sys2Proof.Machine.execBankSwap s
  | .geometry => Sys2Proof.Machine.execGeometry s
  | .station => Sys2Proof.Machine.execStation s
  | .laneSetup => Sys2Proof.Machine.execLaneSetup s
  | .laneState => Sys2Proof.Machine.execLaneState s
  | .laneEmpty => Sys2Proof.Machine.execLaneEmpty s
  | .start => Sys2Proof.Machine.execStart s
  | .stop => Sys2Proof.Machine.execStop s
  | .pauseLoad => Sys2Proof.Machine.execPauseLoad s
  | .resumeLoad => Sys2Proof.Machine.execResumeLoad s
  | .runReset => Sys2Proof.Machine.execRunReset s
  | .force => Sys2Proof.Machine.execForce s
  | .recover => Sys2Proof.Machine.execRecover s
  | .mode => Sys2Proof.Machine.execMode s
  | .enable => Sys2Proof.Machine.execEnable s
  | .clear => Sys2Proof.Machine.execClear s
  | .tallyClear => Sys2Proof.Machine.execTallyClear s
  | .lock => Sys2Proof.Machine.execLock s
  | .formatSelect => Sys2Proof.Machine.execFormatSelect s
  | .queryStatus => Sys2Proof.Machine.execQueryStatus s
  | .queryPocket => Sys2Proof.Machine.execQueryPocket s
  | .queryBankEntry => Sys2Proof.Machine.execQueryBankEntry s
  | .queryLane => Sys2Proof.Machine.execQueryLane s
  | .queryTally => Sys2Proof.Machine.execQueryTally s
  | .queryCounters => Sys2Proof.Machine.execQueryCounters s
  | .unknownKind => Sys2Proof.Machine.execUnknownKind s
  | .transmitStart rhold => Sys2Proof.Machine.execTransmitStart rhold s
  | .rholdAssert => Sys2Proof.Machine.execRholdAssert s
  | .transmitComplete => Sys2Proof.Machine.execTransmitComplete s
  | .fullReset enca encb mfs => Sys2Proof.Machine.execFullReset enca encb mfs s
  | .mclkRisingEdge mdat => Sys2Proof.Machine.execMclkRisingEdge mdat s

end Sys2Proof.Machine
end

