-- ==== Sys2Proof/Machine/Lines.lean ====
section
/-!
DEFINITION. The output lines as functions of the state: the JET lines by the table of R140, the MTRIG lines, LOADEN (which
stands in Ops.lean, since the load sample reads it), RFS and RDAT.
-/

namespace Sys2Proof.Machine

/-- The level of a lane's JET line (R140). -/
def jetLine (s : State) (l : LaneNo) : Bool :=
  let L := s.lanes[l]
  match s.trk.st with
  | .idle | .homing => inactiveLevel L.setup
  | .tracking =>
    if s.mask.masked then safeLevel L.setup
    else match L.output with
      | .active _ => activeLevel L.setup
      | .inactive _ => inactiveLevel L.setup

/-- A station's MTRIG line is active (high) until the pulse's end (R57). -/
def trigLine (s : State) (m : StationNo) : Bool := (s.stations[m].pulseEnd).isSome

/-- RFS is asserted (high) while a frame is being sent (R201). -/
def rfsLine (s : State) : Bool := s.tx.sending

/-- The bits of a frame in the order in which RDAT carries them: each word most significant bit first (R201, R219). -/
def frameBits (f : Frame) : List Bool := f.flatMap fun w => (List.range 16).map fun i => w.getMsbD i

/-- The number of bits of the head frame already sent. -/
def sentBits (t : Transmitter) : Nat := 16 * t.sent + t.bits

/-- The level of RDAT while a frame is sent: the next bit of the head frame, valid at the next rising edge of RCLK (R201). The
manual gives RDAT no level in IDLE. -/
def rdatLine (s : State) : Option Bool :=
  if s.tx.sending then
    match s.report.queue with
    | [] => none
    | f :: _ => (frameBits (outWords f))[sentBits s.tx]?
  else none

/-- The transmitter after one more bit; the sixteenth makes a word sent (R201). -/
def nextBit (t : Transmitter) : Transmitter :=
  if t.bits = 15 then { t with sent := t.sent + 1, bits := 0 } else { t with bits := t.bits + 1 }

/-- One period of RCLK passes: while a frame is sent, a bit other than its last counts as sent (R201; log 11). The last bit is
the frame's completion, which is a command of its own (R203). -/
def sendBit (s : State) : State :=
  if s.tx.sending then
    match s.report.queue with
    | [] => s
    | f :: _ => if sentBits s.tx + 1 < (frameBits (outWords f)).length then s.setTx (nextBit s.tx) else s
  else s

end Sys2Proof.Machine
end

