-- ==== Sys2Proof/Machine/Step.lean ====
section
/-!
DEFINITION. One step of the part: the command at the front of its queue, or one period of RCLK when no command
waits.
-/

namespace Sys2Proof.Machine

/-- The command at the front of the queue is run with the queue's rest (log 1). With an empty queue the part stands
still but for its transmitter, which sends a bit of the frame in progress (R201; log 11). -/
def step (s : State) : Host.Outcome State Fault Refusal :=
  match s.pending with
  | [] => .next (sendBit s)
  | c :: rest => exec c (s.setPending rest)

/-- The state with the command that a word spells put at the front of its queue; unchanged where the word spells none. -/
def State.withFetchWord (s : State) (nbits w : Nat) : State :=
  match decodeTableWord nbits w with
  | some c => s.setPending (c :: s.pending)
  | none => s

end Sys2Proof.Machine
end

