-- ==== Sys2Proof/WellFormed.lean ====
section
/-!
DEFINITION. When a frame is well formed: what the receiver asks of one before it lets it into the inbound queue (R179 to
R181). A command needs no check of its own: its operands are levels and the numbers of existing stations and lanes.
-/

namespace Sys2Proof.Frame

open Sys2Proof.Machine

/-- The declared length is 2 to 16 (R179). -/
def lengthAllowed (f : Frame) : Bool := 2 ≤ declaredLength f && declaredLength f ≤ 16

/-- The frame holds as many words as its header declares (R181). -/
def lengthAgrees (f : Frame) : Bool := f.length == declaredLength f

/-- The words sum to 0 modulo 65,536 (R181). -/
def sumsToZero (f : Frame) : Bool := wordSum f == 0

/-- A frame that the receiver would let into the inbound queue. -/
def wellFormed (f : Frame) : Bool := f.lengthAllowed && f.lengthAgrees && f.sumsToZero

end Sys2Proof.Frame
end

