-- ==== Sys2Proof/Safety.lean ====
section
/-!
DEFINITION. What the manual promises of every state of the running part, as predicates on State: the terms in which the
statements about all commands are made.
-/

namespace Sys2Proof.Machine

/-! ## Records -/

/-- The number of pocket records not FREE that a test holds for. -/
def recordsWith (test : Part → Bool) (s : State) : Nat :=
  s.ring.countP fun r => match r with
    | some p => test p
    | none => false

/-- An AWAIT record bound to a bank. -/
def awaitsOn (id : BankId) (p : Part) : Bool := p.st == .await && p.bank == id

/-- A ROUTED or FIRED record whose target is a lane. -/
def holdsPlaceAt (l : LaneNo) (p : Part) : Bool :=
  match p.st with
  | .routed _ t | .fired _ t => t.lane == l
  | _ => false

/-- A FIRED record whose target is a lane. -/
def firedAt (l : LaneNo) (p : Part) : Bool :=
  match p.st with
  | .fired _ t => t.lane == l
  | _ => false

/-- Each bank's in-use count is the number of AWAIT records bound to it (R102). -/
abbrev InUseMatches (s : State) : Prop := 
  s.banks.a.inUse = recordsWith (awaitsOn .a) s ∧ s.banks.b.inUse = recordsWith (awaitsOn .b) s

/-- Each lane's reserved count is the number of ROUTED and FIRED records with that lane as target (R127). -/
abbrev ReservedMatches (s : State) : Prop := ∀ l : LaneNo, s.lanes[l].reserved = recordsWith (holdsPlaceAt l) s

/-- A lane's counts never exceed a capacity above 0, and a delivered count is at most 65,535 (R121, R122). -/
abbrev LanesFit (s : State) : Prop :=
  ∀ l : LaneNo, s.lanes[l].capacity ≤ 65535 ∧ s.lanes[l].delivered ≤ 65535 ∧
    (0 < s.lanes[l].capacity → s.lanes[l].delivered + s.lanes[l].reserved ≤ s.lanes[l].capacity)

/-- Each lane's confirm queue holds the pockets of the FIRED records with that lane as target, each once (R154). -/
abbrev ConfirmQueuesMatch (s : State) : Prop :=
  ∀ l : LaneNo, (s.lanes[l].queue.map (·.pocket)).Nodup ∧
    ∀ k : PocketNo, k ∈ s.lanes[l].queue.map (·.pocket) ↔ (s.ring[k]).any (firedAt l) = true

/-- Records are live in TRACKING only, and the records beyond the turret's pockets stay FREE (R26, R27). -/
abbrev RecordsInPlace (s : State) : Prop :=
  (s.trk.st ≠ .tracking → ∀ k : PocketNo, s.ring[k] = none) ∧ ∀ k : PocketNo, s.geo.pn ≤ k.val → s.ring[k] = none

/-- The tally's account of the records, while no count stands at its largest value (R209). -/
abbrev TallyBalances (s : State) : Prop :=
  (∀ i : Fin 49, s.tally[i] < 4294967295) →
    s.tally[tallyLoaded] =
        s.tally[tallyDelivered] + s.tally[tallyDumped] + s.tally[tallyUnsorted] + recordsWith (fun _ => true) s ∧
      (allLanes.map fun l => s.tally[tallyLane l]).sum = s.tally[tallyDelivered]

/-! ## Position and setup -/

/-- The geometry lies in the ranges of R3, pos lies in 0 … C−1 (R2), and in TRACKING so does the lag (R5). -/
abbrev PositionInRange (s : State) : Prop :=
  (8 ≤ s.geo.pn ∧ s.geo.pn ≤ 128) ∧ (512 ≤ s.geo.c ∧ s.geo.c ≤ 65536) ∧ s.geo.indexOffset < s.geo.c ∧
    s.trk.pos < s.geo.c ∧ (s.trk.st = .tracking → s.trk.lag < s.geo.c)

/-- A station takes part in the START relations: its role is CONTACT or PREC (R52). -/
abbrev measures (x : Station) : Prop := x.role ≠ .none

/-- The relations of R188 that each station of role CONTACT or PREC is checked for. -/
def StationRelation (s : State) (m : StationNo) : Nat → Prop
  | 9 => s.stations[m].offset + 2 ≤ s.geo.pn
  | 10 => s.stations[m].trigPhase < pitch s.geo ∧ s.stations[m].trigWidth < pitch s.geo
  | 11 => ∀ l : LaneNo, s.lanes[l].attr ≠ .disabled →
      s.stations[m].offset + s.stations[m].deadline < s.lanes[l].setup.offset
  | _ => True

/-- The relations of R188 that every lane is checked for. -/
def LaneRelation (s : State) (l : LaneNo) : Nat → Prop
  | 12 => s.lanes[l].setup.offset < s.geo.dumpOffset
  | 13 => s.lanes[l].setup.firePhase < pitch s.geo ∧ s.lanes[l].setup.width ≤ 4 * pitch s.geo ∧
      s.lanes[l].setup.window ≤ 4 * pitch s.geo ∧ s.lanes[l].setup.firstShot ≤ pitch s.geo ∧
      s.lanes[l].setup.tailTrim < pitch s.geo
  | _ => True

/-- The relation of each numbered check of R188. -/
def StartRelation (s : State) : Nat → Prop
  | 1 => s.geo.pn ∣ s.geo.c
  | 2 => 16 ≤ pitch s.geo
  | 3 => 2 * s.geo.h < pitch s.geo
  | 4 => 2 * s.geo.ti < pitch s.geo
  | 5 => s.geo.ti ≤ s.geo.indexOffset % pitch s.geo ∧ s.geo.indexOffset % pitch s.geo + s.geo.ti < pitch s.geo
  | 6 => s.geo.loadPhase < pitch s.geo
  | 7 => s.geo.dumpOffset < s.geo.pn
  | 8 => ∃ m : StationNo, s.stations[m].role = .prec
  | 9 => ∀ m : StationNo, measures s.stations[m] → StationRelation s m 9
  | 10 => ∀ m : StationNo, measures s.stations[m] → StationRelation s m 10
  | 11 => ∀ m : StationNo, measures s.stations[m] → StationRelation s m 11
  | 12 => ∀ l : LaneNo, LaneRelation s l 12
  | 13 => ∀ l : LaneNo, LaneRelation s l 13
  | 14 => (bankAt s.banks s.banks.live).table.loaded = true
  | _ => True

/-- Outside IDLE, every relation of R188 goes on holding. -/
abbrev RunsWithinRelations (s : State) : Prop := s.trk.st ≠ .idle → ∀ n, 1 ≤ n → n ≤ 14 → StartRelation s n

/-! ## Mask, outputs, banks and queues -/

/-- The reason set is empty exactly while the mask is LIVE, the clean count stays 0 while LIVE, and the clean count and N
lie in their ranges (R163). -/
abbrev MaskConsistent (s : State) : Prop :=
  s.mask.masked = (s.mask.slip || s.mask.reverse || s.mask.forced) ∧ (s.mask.masked = false → s.mask.clean = 0) ∧
    s.mask.clean ≤ 15 ∧ 1 ≤ s.mask.n ∧ s.mask.n ≤ 15

/-- A lane output is ACTIVE (R141). -/
def isActive (L : Lane) : Bool :=
  match L.output with
  | .active _ => true
  | .inactive _ => false

/-- A run is in progress in TRACKING with the mask LIVE only (R140, R141, R152, R161). -/
abbrev RunsOnlyWhileLive (s : State) : Prop :=
  ∀ l : LaneNo, isActive s.lanes[l] = true → s.trk.st = .tracking ∧ s.mask.masked = false

/-- The generation counter equals the LIVE bank's generation (R105). -/
abbrev GenerationMatches (s : State) : Prop := s.banks.generation = (bankAt s.banks s.banks.live).generation

/-- The inbound queue holds at most 8 frames and the report queue's fill is at most 32 (R182, R198). -/
abbrev QueuesBounded (s : State) : Prop := s.inbound.length ≤ 8 ∧ fill s ≤ 32

/-- Every frame of the inbound queue is one that the receiver lets through (R179, R181). -/
abbrev InboundWellFormed (s : State) : Prop := ∀ f ∈ s.inbound, Frame.wellFormed f = true

/-- In RECEIVING, the receiver's counts, sum and declared length describe the words assembled so far (R178, R179). -/
abbrev ReceiverConsistent (s : State) : Prop :=
  s.rx.st = .receiving →
    s.rx.words.length = s.rx.wordCount ∧ s.rx.sum = wordSum s.rx.words ∧ s.rx.bitCount ≤ 15 ∧
      (s.rx.declared = none → s.rx.wordCount = 0 ∨ (s.rx.wordCount = 1 ∧ s.rx.bitCount = 0)) ∧
      ∀ n ∈ s.rx.declared, n = declaredLength s.rx.words ∧ 2 ≤ n ∧ n ≤ 16 ∧ 1 ≤ s.rx.wordCount ∧
        (s.rx.wordCount < n ∨ (s.rx.wordCount = n ∧ s.rx.bitCount = 0))

/-! ## Frames under execution -/

/-- A frame of a kind, with the kind's required length, stands at the head of the inbound queue. -/
abbrev HeadOf (k : Kind) (f : Frame) (s : State) : Prop :=
  s.inbound.head? = some f ∧ frameCode f = kindCode k ∧ kindLength k = some (declaredLength f)

/-- The report queue has a place for the head frame's REPLY (R186): one already kept for it, or a fill below 32. -/
abbrev CanBegin (s : State) : Prop := s.report.replyPlace = true ∨ fill s < 32

/-- The state in which the head frame has left the inbound queue and its REPLY has joined the report queue (R183, R185),
after the owner's act has left the state t. -/
def replied (f : Frame) (a : Answer) (t : State) : State :=
  { t with
      inbound := t.inbound.tail
      report := { t.report with
        queue := t.report.queue ++ [.reply (frameTag f) (frameCode f) a]
        replyPlace := false }
      events := { t.events with noticeFirst := true } }

end Sys2Proof.Machine
end

