-- ==== Sys2Proof/Rules.lean ====
section
/-!
DEFINITION. Tables and ranges of the manual as relations, written beside the machine and not from it, so that the
statements about a command can say what its frame must hold and what it leaves.
-/

namespace Sys2Proof.Machine

/-! ## Field encodings (R221) -/

/-- A route or partner byte: 00 … 0F a lane, FF none. -/
abbrev RouteCode (c : Byte) : Route → Prop
  | some l => c.toNat = l.val
  | none => c.toNat = 255

/-- The edge mode bytes 01, 02 and 04. -/
abbrev EdgeModeCode (c : Byte) : EdgeMode → Prop
  | .x1 => c.toNat = 1
  | .x2 => c.toNat = 2
  | .x4 => c.toNat = 4

/-- The station role bytes 00 to 02. -/
abbrev RoleCode (c : Byte) : Role → Prop
  | .none => c.toNat = 0
  | .contact => c.toNat = 1
  | .prec => c.toNat = 2

/-- The lane attribute bytes 00 to 02. -/
abbrev AttrCode (c : Byte) : LaneAttr → Prop
  | .opened => c.toNat = 0
  | .held => c.toNat = 1
  | .disabled => c.toNat = 2

/-- The overflow action bytes 00 to 02. -/
abbrev ActionCode (c : Byte) : OverflowAction → Prop
  | .keep => c.toNat = 0
  | .designate => c.toNat = 1
  | .release => c.toNat = 2

/-- The special class bytes 01 to 05. -/
abbrev SpecialCode (c : Byte) : SpecialClass → Prop
  | .out => c.toNat = 1
  | .contact => c.toNat = 2
  | .missing => c.toNat = 3
  | .invalid => c.toNat = 4
  | .unstable => c.toNat = 5

/-- The contact status bytes 00 to 02. -/
abbrev ContactCode (c : Byte) : ContactStatus → Prop
  | .ok => c.toNat = 0
  | .opened => c.toNat = 1
  | .shorted => c.toNat = 2

/-- A word of two bytes given as numbers, the high byte first. -/
def bytes (hi lo : Nat) : Word16 := BitVec.ofNat 16 (hi % 256 * 256 + lo % 256)

/-! ## Setup frames (R3, R52, R138 with the layouts of R220) -/

/-- The geometry that a GEOMETRY frame carries, for an edge mode. -/
def carriedGeometry (f : Frame) (mode : EdgeMode) : Geometry :=
  { pn := (loByte (word f 1)).toNat, c := (dword f 3).toNat, mode := mode, h := (hiByte (word f 5)).toNat,
    ti := (loByte (word f 5)).toNat, indexOffset := (word f 6).toNat, loadPhase := (word f 7).toNat,
    dumpOffset := (loByte (word f 8)).toNat }

/-- The column "Range on GEOMETRY" of R3. -/
abbrev GeometryAllowed (f : Frame) (mode : EdgeMode) : Prop :=
  (8 ≤ (carriedGeometry f mode).pn ∧ (carriedGeometry f mode).pn ≤ 128) ∧
    (512 ≤ (carriedGeometry f mode).c ∧ (carriedGeometry f mode).c ≤ 65536) ∧
    (carriedGeometry f mode).indexOffset < (carriedGeometry f mode).c ∧ EdgeModeCode (loByte (word f 2)) mode

/-- The column "Range on STATION" of R52, for a frame's station and role; the role limit counts the other stations' roles. -/
abbrev StationAllowed (f : Frame) (s : State) (m : StationNo) (r : Role) : Prop :=
  (loByte (word f 1)).toNat = m.val ∧ RoleCode (hiByte (word f 2)) r ∧
    (1 ≤ (hiByte (word f 3)).toNat ∧ (hiByte (word f 3)).toNat ≤ 126) ∧
    (1 ≤ (loByte (word f 3)).toNat ∧ (loByte (word f 3)).toNat ≤ 8) ∧ (word f 4).toNat ≤ 8191 ∧
    (1 ≤ (word f 5).toNat ∧ (word f 5).toNat ≤ 8191) ∧
    (r = .prec → (-50000 ≤ (dword f 6).toInt ∧ (dword f 6).toInt ≤ 50000) ∧ (loByte (word f 2)).toNat ≤ 1 ∧
      ∀ a b : StationNo, a < b → a ≠ m → b ≠ m → ¬ (s.stations[a].role = .prec ∧ s.stations[b].role = .prec))

/-- The station record that an accepted STATION frame leaves (R53). -/
def carriedStation (f : Frame) (r : Role) (x : Station) : Station :=
  { role := r, offset := (hiByte (word f 3)).toNat, trigPhase := (word f 4).toNat, trigWidth := (word f 5).toNat,
    deadline := (loByte (word f 3)).toNat, trim := if r = .prec then (dword f 6).toInt else 0,
    skip := decide (r = .prec ∧ (loByte (word f 2)).toNat = 1), seq := x.seq, temp := x.temp, expired := [],
    pulseEnd := x.pulseEnd }

/-- The setup that a LANE-SETUP frame carries, for a partner (R138, R220). -/
def carriedSetup (f : Frame) (partner : Route) : LaneSetup :=
  { partner := partner, offset := (loByte (word f 2)).toNat, firePhase := (word f 3).toNat, width := (word f 4).toNat,
    firstShot := (word f 5).toNat, restDist := (word f 6).toNat, tailTrim := (word f 7).toNat,
    activeLow := (word f 9).getLsbD 0, safeLow := (word f 9).getLsbD 1, safeHigh := (word f 9).getLsbD 2,
    confirm := (word f 9).getLsbD 3, window := (word f 8).toNat }

/-- The column "Range on LANE-SETUP" of R138 with the lane and partner ranges of R130. -/
abbrev LaneSetupAllowed (f : Frame) (l : LaneNo) (partner : Route) : Prop :=
  (loByte (word f 1)).toNat = l.val ∧ RouteCode (hiByte (word f 2)) partner ∧
    (1 ≤ (carriedSetup f partner).offset ∧ (carriedSetup f partner).offset ≤ 126) ∧
    (carriedSetup f partner).firePhase ≤ 8191 ∧
    (1 ≤ (carriedSetup f partner).width ∧ (carriedSetup f partner).width ≤ 32768) ∧
    (carriedSetup f partner).firstShot ≤ 8192 ∧ (carriedSetup f partner).tailTrim ≤ 8191 ∧
    (1 ≤ (carriedSetup f partner).window ∧ (carriedSetup f partner).window ≤ 32768) ∧
    (loByte (word f 9)).toNat < 16

/-- The capacity a LANE-STATE leaves, for the capacity asked for and the sum of the lane's counts (R132). -/
abbrev CapacityWritten (asked sum cap : Nat) : Prop :=
  (asked = 0 → cap = 0) ∧ (0 < asked → sum ≤ asked → cap = asked) ∧
    (0 < asked → asked < sum → sum ≤ 65535 → cap = sum) ∧ (0 < asked → asked < sum → 65535 < sum → cap = 0)

/-- FULL (R121). -/
abbrev FullLane (L : Lane) : Prop := 0 < L.capacity ∧ L.delivered + L.reserved = L.capacity

/-- The overflow designation that an action leaves (R132). -/
def designationAfter (o : OverflowAction) (l : LaneNo) (now : Route) : Route :=
  match o with
  | .designate => some l
  | .release => if now = some l then none else now
  | .keep => now

/-! ## Table frames (R97 to R99) -/

/-- The ranges of R97. -/
abbrev HeaderAllowed (f : Frame) : Prop :=
  (1048576 ≤ (dword f 5).toNat ∧ (dword f 5).toNat ≤ 8000000) ∧ (loByte (word f 2)).toNat ≤ 7 ∧
    (-5000 ≤ (word f 7).toInt ∧ (word f 7).toInt ≤ 5000) ∧ (word f 8).toNat ≤ 10000 ∧ (dword f 9).toNat ≤ 100000 ∧
    (1 ≤ (loByte (word f 1)).toNat ∧ (loByte (word f 1)).toNat ≤ 24)

/-- The table that an accepted BANK-HEADER leaves (R97). -/
def carriedTable (f : Frame) : Table :=
  { loaded := true, lot := dword f 3, nexp := (dword f 5).toNat, range := (word f 2).setWidth 3,
    tcr := (word f 7).toInt, guard := (word f 8).toNat, stability := (dword f 9).toNat,
    nb := (loByte (word f 1)).toNat, entries := Vector.replicate 24 none, routeOut := none, routeContact := none,
    routeMissing := none, routeInvalid := none, routeUnstable := none }

/-- The ranges of R98. -/
abbrev EntryAllowed (f : Frame) (i : Fin 24) (r : Route) : Prop :=
  (loByte (word f 1)).toNat = i.val ∧ (-10000000 ≤ (dword f 2).toInt ∧ (dword f 2).toInt ≤ 10000000) ∧
    (-10000000 ≤ (dword f 4).toInt ∧ (dword f 4).toInt ≤ 10000000) ∧ (dword f 2).toInt ≤ (dword f 4).toInt ∧
    RouteCode (loByte (word f 6)) r

/-- The fields of R99. -/
abbrev SpecialAllowed (f : Frame) (c : SpecialClass) (r : Route) : Prop :=
  SpecialCode (loByte (word f 1)) c ∧ RouteCode (loByte (word f 2)) r

/-- A table with the route of one special class replaced (R99). -/
def withSpecial (c : SpecialClass) (r : Route) (t : Table) : Table :=
  match c with
  | .out => { t with routeOut := r }
  | .contact => { t with routeContact := r }
  | .missing => { t with routeMissing := r }
  | .invalid => { t with routeInvalid := r }
  | .unstable => { t with routeUnstable := r }

/-- A table with one entry set (R98). -/
def withEntry (i : Fin 24) (e : BinEntry) (t : Table) : Table := { t with entries := t.entries.set i (some e) }

/-- The letter of the bank that is not LIVE: STAGING (R94). -/
abbrev IsStaging (s : State) (id : BankId) : Prop := id ≠ s.banks.live

/-- A LOADED bank is complete (R95). -/
abbrev CompleteTable (t : Table) : Prop := t.loaded = true ∧ ∀ i : Fin 24, i.val < t.nb → t.entries[i] ≠ none

/-! ## The encoder front end (R1) -/

/-- The table of R1: from, to, and the count in X4, X2 and X1. -/
def countTable : List ((Bool × Bool) × (Bool × Bool) × Int × Int × Int) :=
  [((false, false), (true, false), 1, 1, 1),
   ((true, false), (true, true), 1, 0, 0),
   ((true, true), (false, true), 1, 1, 0),
   ((false, true), (false, false), 1, 0, 0),
   ((true, false), (false, false), -1, -1, -1),
   ((true, true), (true, false), -1, 0, 0),
   ((false, true), (true, true), -1, -1, 0),
   ((false, false), (false, true), -1, 0, 0)]

/-- The count that the step to a pair of levels gives, from the quadrature reference; a step that is no row of the table
is not counted (R1, R2). -/
def countOf (s : State) (enca encb : Bool) : Int :=
  match countTable.find? fun r => r.1 == (s.trk.quadA, s.trk.quadB) && r.2.1 == (enca, encb) with
  | some (_, _, x4, x2, x1) => (match s.geo.mode with | .x4 => x4 | .x2 => x2 | .x1 => x1)
  | none => 0

/-- pos moved by a number of counts, in 0 … C−1 (R2). -/
def posAfter (s : State) (n : Int) : Nat := ((s.trk.pos + n) % s.geo.c).toNat

/-- A state as an ENCODER_COUNT sees it: PPS sampled and the new pair taken as the quadrature reference. -/
def counted (enca encb pps : Bool) (s : State) : State :=
  { s with pins := { s.pins with pps := pps }, trk := { s.trk with quadA := enca, quadB := encb } }

/-! ## Measurement and lanes -/

/-- Another slot than a station's is unresolved in a record. -/
def othersUnresolved (m : StationNo) (p : Part) : Bool :=
  (slotList p.slots).any fun x => x.1 != m && !isResolved x.2

/-- Row 1 of R60: the station does not exist, has no role, or the frame does not match its role. -/
abbrev RowOne (s : State) (f : Frame) : Prop :=
  ∀ m : StationNo, (hiByte (word f 1)).toNat = m.val →
    match s.stations[m].role with
    | .none => True
    | .contact => (hiByte (word f 2)).toNat ≠ 0 ∨ 2 < (loByte (word f 2)).toNat
    | .prec => (hiByte (word f 2)).toNat ≠ 1 ∨ (loByte (word f 2)).extractLsb' 3 4 ≠ 0

/-- The slot that an accepted RESULT leaves at a station (R61, R62). -/
inductive ResultLeaves (s : State) (f : Frame) (m : StationNo) : Slot → Prop where
  | contact (st : ContactStatus) : s.stations[m].role = .contact → (hiByte (word f 2)).toNat = 0 →
      ContactCode (loByte (word f 2)) st → ResultLeaves s f m (.contact (loByte (word f 1)) st)
  | reading : s.stations[m].role = .prec → (hiByte (word f 2)).toNat = 1 → (loByte (word f 2)).extractLsb' 3 4 = 0 →
      ResultLeaves s f m (.reading (loByte (word f 1))
        { n := loByte (word f 3) ++ word f 4, range := (word f 2).setWidth 3, overload := (word f 2).getLsbD 7,
          temp := s.stations[m].temp })

/-- The strand reason of a record that leaves its lane with the fire not taken (R38). -/
def reasonUnfired (L : Lane) : StrandReason := if L.attr = .disabled then .disabled else .masked

/-- One more on a 16-bit counter that stays at 65,535 (R196). -/
def oneMore (n : Nat) : Nat := if n < 65535 then n + 1 else n

/-- The state in which the frame at the head has left the inbound queue. -/
def taken (s : State) : State := { s with inbound := s.inbound.tail }

/-! ## Codes of outbound fields (R221, R224) -/

/-- The reply status codes 00 to 0A. -/
def statusNumber : Status → Nat
  | .ok => 0
  | .adjusted => 1
  | .busy => 2
  | .locked => 3
  | .badArg => 4
  | .incomplete => 5
  | .alreadySet => 6
  | .wrongState => 7
  | .badGeometry => 8
  | .unknownKind => 9
  | .badLength => 10

/-- What the state of a record that is not FREE holds: its code, and the verdict, target and strand reason where there is
one (R26). -/
structure Standing where
  code : Nat
  verdict : Option Verdict
  target : Option Target
  reason : Option StrandReason

/-- AWAIT, ROUTED, FIRED and STRANDED with what they hold (R26, R221). -/
def standing : PartState → Standing
  | .await => { code := 1, verdict := none, target := none, reason := none }
  | .routed v t => { code := 2, verdict := some v, target := some t, reason := none }
  | .fired v t => { code := 3, verdict := some v, target := some t, reason := none }
  | .stranded v t why => { code := 4, verdict := some v, target := t, reason := some why }

/-- The class and bin codes of a verdict; absent where there is none, and the bin absent beside another class (R224). -/
def classCodes : Option Verdict → Word16
  | none => bytes 255 255
  | some (.bin i _) => bytes 0 i.val
  | some (.out _) => bytes 1 255
  | some .contact => bytes 2 255
  | some .missing => bytes 3 255
  | some .invalid => bytes 4 255
  | some (.unstable _) => bytes 5 255

/-- The lane and route kind codes of a target; absent where there is none (R224). -/
def targetCodes : Option Target → Word16
  | none => bytes 255 255
  | some t => bytes t.lane.val (match t.kind with | .direct => 0 | .partner => 1 | .overflow => 2)

/-- The strand reason code; absent where there is none (R224). -/
def reasonCode : Option StrandReason → Nat
  | none => 255
  | some .noRoute => 0
  | some .noLane => 1
  | some .masked => 2
  | some .disabled => 3
  | some .miss => 4

/-- The deviation of a verdict, for the classes that carry one (R75). -/
def carriedDeviation : Option Verdict → Option Deviation
  | some (.bin _ d) | some (.out d) | some (.unstable d) => some d
  | _ => none

/-- The two words of D, −2,147,483,648 where the verdict carries none (R224). -/
def deviationCodes (v : Option Verdict) : List Word16 :=
  match carriedDeviation v with
  | some x => words32 (BitVec.ofInt 32 x.d)
  | none => [0x8000, 0]

/-- CLAMPED as bit 0 and TNONE as bit 1, clear where the verdict carries no D (R75, R224). -/
def deviationFlags (v : Option Verdict) : Nat :=
  match carriedDeviation v with
  | some x => x.clamped.toNat + 2 * x.tnone.toNat
  | none => 0

/-- A temperature copy, −32,768 for none (R224). -/
def tempCode : Option Int → Word16
  | some x => BitVec.ofInt 16 x
  | none => 0x8000

/-- The words g1 to g3 of R224, or d4 to d6 of a POCKET slot reply (R225). -/
def readingCodes (overload : Bool) (range : BitVec 3) (n : BitVec 24) (temp : Option Int) : List Word16 :=
  [bytes (128 * overload.toNat + range.toNat) (n.toNat / 65536), n.setWidth 16, tempCode temp]

/-- The reading group of a station's slot in a PART report of format 2 (R205, R224, R226). -/
def groupCodes (m : StationNo) : Slot → List Word16
  | .reading _ r => bytes m.val 2 :: readingCodes r.overload r.range r.n r.temp
  | .waiting => [bytes m.val 0, 0, 0, 0]
  | .outstanding _ => [bytes m.val 1, 0, 0, 0]
  | .contact _ _ => [bytes m.val 2, 0, 0, 0]
  | .expired _ => [bytes m.val 3, 0, 0, 0]
  | .skipped => [bytes m.val 4, 0, 0, 0]

/-- The words d2 to d6 that a POCKET slot reply may carry for a slot (R194, R225). The number byte of a slot that no number was
issued to and the reading of a received CONTACT slot are free (logs 9, 31); d3's high byte is 01 wherever a number was
issued (log 31). -/
inductive SlotReply : Option Slot → List Word16 → Prop where
  | absent : SlotReply none [bytes 255 0, bytes 0 255, 0, 0, 0]
  | waiting (b : Nat) : SlotReply (some .waiting) [bytes 0 b, bytes 0 255, 0, 0, 0]
  | outstanding (q : BitVec 8) : SlotReply (some (.outstanding q)) [bytes 1 q.toNat, bytes 1 255, 0, 0, 0]
  | contact (q : BitVec 8) (st : ContactStatus) (overload : Bool) (range : BitVec 3) (n : BitVec 24) :
      SlotReply (some (.contact q st))
        ([bytes 2 q.toNat, bytes 1 (match st with | .ok => 0 | .opened => 1 | .shorted => 2)] ++
          readingCodes overload range n none)
  | reading (q : BitVec 8) (r : Reading) :
      SlotReply (some (.reading q r)) ([bytes 2 q.toNat, bytes 1 255] ++ readingCodes r.overload r.range r.n r.temp)
  | expired (q : BitVec 8) : SlotReply (some (.expired (some q))) [bytes 3 q.toNat, bytes 1 255, 0, 0, 0]
  | expiredUnissued (b : Nat) : SlotReply (some (.expired none)) [bytes 3 b, bytes 0 255, 0, 0, 0]
  | skipped (b : Nat) : SlotReply (some .skipped) [bytes 4 b, bytes 0 255, 0, 0, 0]

/-! ## Classes and deviations -/

/-- The tally entry of a class (R208). -/
def classEntry : Verdict → Nat
  | .bin i _ => i.val
  | .out _ => 24
  | .contact => 25
  | .missing => 26
  | .invalid => 27
  | .unstable _ => 28

/-- The route that the bound bank hands for a class (R109). -/
def handedRoute (t : Table) : Verdict → Route
  | .bin i _ => match t.entries[i] with
    | some e => e.route
    | none => none
  | .out _ => t.routeOut
  | .contact => t.routeContact
  | .missing => t.routeMissing
  | .invalid => t.routeInvalid
  | .unstable _ => t.routeUnstable

/-- q is the quotient of a by b rounded half away from zero (R76). -/
abbrev Rounds (a : Int) (b : Nat) (q : Int) : Prop :=
  2 * (q * b - a).natAbs ≤ b ∧ (2 * (q * b - a).natAbs = b → a.natAbs < (q * b).natAbs)

/-! ## Reports -/

/-- A record's slots at the PREC stations, in order of station number (R205). -/
def precReadings (s : State) (p : Part) : List (StationNo × Slot) :=
  (List.finRange 4).filterMap fun m => if s.stations[m].role = .prec then (p.slots[m]).map fun x => (m, x) else none

/-- The PART report of a record at an outcome (R204 to R206). -/
def reportAs (s : State) (o : OutcomeKind) (k : PocketNo) (p : Part) (purged : Bool) : PartReport :=
  { outcome := o, pocket := k, part := p, purged := purged, formatTwo := s.report.formatTwo, readings := precReadings s p }

/-- The records not FREE, in decreasing offset from the pocket at the load station (R46). -/
def recordsFrom (s : State) (load : Nat) : List (PocketNo × Part) :=
  (List.range s.geo.pn).reverse.filterMap fun e =>
    (s.ring[pocketFrom s.geo load e]).map fun p => (pocketFrom s.geo load e, p)

/-- The PART reports of a purge: UNSORTED and PURGED, one for each record, in decreasing offset (R46, R47). -/
def purgeReports (s : State) (load : Nat) : List OutFrame :=
  (recordsFrom s load).map fun x => .part (reportAs s .unsorted x.1 x.2 true)

/-! ## The mark -/

/-- The mark one position further (R6). -/
def markMoved (s : State) : State :=
  s.setTrk { s.trk with pos := posAfter s 1, travel := s.trk.travel + 1, armed := true }

/-- The events of a mark position just reached: the pitch event where its phase is 0, and the phase event
(R9, R10; their order is the model's choice, log 10). -/
def markEvents (spanEnd : Option Travel) (s : State) : State :=
  phaseEvent spanEnd (if phase s = 0 then pitchEvent s else s)

/-- The travel at which a point is taken that an act at travel f sets n counts later: that travel, or the first advance after
the span of the forward re-alignment that took the act, where the point falls inside the span (R57, R149). -/
def pointAfter (spanEnd : Option Travel) (f : Travel) (n : Nat) : Travel :=
  match spanEnd with
  | none => f + BitVec.ofNat 32 n
  | some e => if (BitVec.ofNat 32 n).toNat ≤ (e - f).toNat then e + 1 else f + BitVec.ofNat 32 n

/-- The state after commands run one after the other. -/
def runAll (cs : List Instr) (s : State) : State :=
  cs.foldl (fun t c => match exec c t with | .next u => u | _ => t) s

/-- The commands of the points that an advance may bring, in the order in which the model takes those left over (log 4). -/
def pointCommands : List Instr :=
  (List.finRange 4).map .deadlineExpiry ++ (List.finRange 4).map .triggerEnd ++
    (List.finRange 16).flatMap fun l => [.runClose l, .windowEnd l, .restPoint l]

end Sys2Proof.Machine
end

