-- ==== Sys2Proof/Certificates/Slice0/Obligations.lean ====
section
/-!
DEFINITION. The statements for the provers. Where a clause says what the manual leaves to the model, its docstring names the
log entry.

Where a statement sets `s = settled before`, the command is run on `before`, and s is `before` once all that fell due at the
last advance has been taken, which the model does first (log 4; `TravelPointsTaken` says what that is). Where it sets
`s = opened before`, s is `before` once the notice with a place has been admitted and the processor's stall has been marked
(log 17; `TransmitterActs`).
-/

open Sys2Proof Sys2Proof.Machine

/-! ## The step -/

/-- The command at the front of the queue is run on the state with the queue's rest (log 1). -/
def Obligations.StepRunsFrontCommand : Prop :=
  ∀ (c : Instr) (rest : List Instr) (s : State), s.pending = c :: rest → step s = exec c (s.setPending rest)

/-- With no command waiting, a step is one period of RCLK: while a frame is sent, one more of its bits counts as sent, short
of its last; nothing else changes, and nothing at all where no frame is sent. The model's choice, log 11. -/
def Obligations.IdleStepOnlySends : Prop :=
  ∀ s : State, s.pending = [] →
    (s.tx.sending = false ∨ s.report.queue = [] → step s = .next s) ∧
    ∀ f rest n, s.tx.sending = true → s.report.queue = f :: rest → n = 16 * s.tx.sent + s.tx.bits →
      (n + 1 < 16 * (outWords f).length →
        ∃ t, step s = .next (s.setTx t) ∧ t.sending = true ∧ 16 * t.sent + t.bits = n + 1 ∧
          (s.tx.bits ≤ 15 → t.bits ≤ 15)) ∧
      (16 * (outWords f).length ≤ n + 1 → step s = .next s)

/-! ## Resets and STOP -/

/-- Every register after FULL_RESET, for the levels of ENCA, ENCB and MFS at the release (R3, R24, R51, R52, R73, R91,
R115, R116, R137, R138, R162, R163, R177, R196, R197, R218). -/
def Obligations.FullResetLeaves : Prop :=
  ∀ (a b mfs : Bool) (s : State), ∃ t, exec (.fullReset a b mfs) s = .next t ∧
    t.geo = { pn := 32, c := 4096, mode := .x4, h := 8, ti := 16, indexOffset := 64, loadPhase := 64, dumpOffset := 31 } ∧
    (t.trk.st = .idle ∧ t.trk.pos = 0 ∧ t.trk.lag = 0 ∧ t.trk.travel = 0 ∧ t.trk.indexRef = 0 ∧ t.trk.armed = true ∧
      t.trk.quadA = a ∧ t.trk.quadB = b) ∧
    (∀ k : PocketNo, t.ring[k] = none) ∧ t.serial = 1 ∧ t.loadPause = false ∧
    (∀ m : StationNo, t.stations[m] =
      { role := .none, offset := 1, trigPhase := 0, trigWidth := 1, deadline := 1, trim := 0, skip := false, seq := 0,
        temp := none, expired := [], pulseEnd := none }) ∧
    (∀ id, bankAt t.banks id =
      { table := { loaded := false, lot := 0, nexp := 0, range := 0, tcr := 0, guard := 0, stability := 0, nb := 0,
                   entries := Vector.replicate 24 none, routeOut := none, routeContact := none, routeMissing := none,
                   routeInvalid := none, routeUnstable := none },
        generation := 0, inUse := 0 }) ∧
    (t.banks.live = .a ∧ t.banks.generation = 0 ∧ t.banks.lock = false) ∧
    (∀ l : LaneNo, t.lanes[l] =
      { attr := .disabled, capacity := 0, delivered := 0, reserved := 0,
        setup := { partner := none, offset := 1, firePhase := 0, width := 1, firstShot := 0, restDist := 0, tailTrim := 0,
                   activeLow := false, safeLow := false, safeHigh := false, confirm := false, window := 1 },
        output := .inactive .rested, queue := [] }) ∧
    t.overflow = none ∧
    t.mask = { masked := false, slip := false, reverse := false, forced := false, clean := 0, auto := true, n := 3 } ∧
    t.rx.st = (if mfs then .trailing else .waiting) ∧ t.inbound = [] ∧
    t.tx = { sending := false, sent := 0, bits := 0 } ∧
    t.report = { queue := [], replyPlace := false, noticePlace := false, stalled := false, formatTwo := true,
                 formatMark := false } ∧
    (∀ i : Fin 49, t.tally[i] = 0) ∧
    (t.events.flags = 0 ∧ t.events.enables = 0 ∧ t.events.noticePending = false) ∧
    t.counters = { runt := 0, badSum := 0, overrun := 0, late := 0, duplicate := 0, unexpected := 0, stray := 0,
                   ejectMiss := 0, reportDrop := 0 }

/-- A RUN-RESET at the head of the inbound queue, whatever the report queue holds: what each block keeps and what it
resets. Where the counts and queues matched the records, every in-use and reserved count is 0 and every confirm queue
empty (R25, R48, R50, R51, R73, R115, R137, R162, R177, R191, R197, R217). What fell due at the last advance is taken
first (log 4). -/
def Obligations.RunResetLeaves : Prop :=
  ∀ (f : Frame) (before s : State), s = settled before → HeadOf .runControl f s → (loByte (word f 1)).toNat = 5 →
    ∃ t, exec .runReset before = .next t ∧ t.geo = s.geo ∧ t.trk = { s.trk with st := .idle } ∧
      (∀ k : PocketNo, t.ring[k] = none) ∧ t.serial = s.serial ∧ t.loadPause = false ∧
      (∀ m : StationNo, t.stations[m] = { s.stations[m] with seq := 0, temp := none, expired := [], pulseEnd := none }) ∧
      (∀ id, (bankAt t.banks id).table = (bankAt s.banks id).table ∧
        (bankAt t.banks id).generation = (bankAt s.banks id).generation ∧
        (InUseMatches s → (bankAt t.banks id).inUse = 0)) ∧
      (t.banks.live = s.banks.live ∧ t.banks.generation = s.banks.generation ∧ t.banks.lock = s.banks.lock) ∧
      (∀ l : LaneNo, t.lanes[l].attr = s.lanes[l].attr ∧ t.lanes[l].capacity = s.lanes[l].capacity ∧
        t.lanes[l].delivered = s.lanes[l].delivered ∧ t.lanes[l].setup = s.lanes[l].setup ∧
        t.lanes[l].output = .inactive .rested ∧ (ReservedMatches s → t.lanes[l].reserved = 0) ∧
        (ConfirmQueuesMatch s → t.lanes[l].queue = [])) ∧
      t.overflow = s.overflow ∧
      t.mask = { masked := false, slip := false, reverse := false, forced := false, clean := 0, auto := s.mask.auto,
                 n := s.mask.n } ∧
      t.rx = s.rx ∧ t.inbound = [] ∧ t.tx = { sending := false, sent := 0, bits := 0 } ∧
      t.report = { queue := [.reply (frameTag f) 0x30 { status := .ok }], replyPlace := false, noticePlace := false,
                   stalled := false, formatTwo := s.report.formatTwo, formatMark := s.report.formatMark } ∧
      (∀ i : Fin 49, i ≠ tallyUnsorted → t.tally[i] = s.tally[i]) ∧
      (s.tally[tallyUnsorted] + recordsWith (fun _ => true) s ≤ 4294967295 →
        t.tally[tallyUnsorted] = s.tally[tallyUnsorted] + recordsWith (fun _ => true) s) ∧
      (t.events.flags = 0 ∧ t.events.enables = s.events.enables ∧ t.events.noticePending = false) ∧
      t.counters = { runt := 0, badSum := 0, overrun := 0, late := 0, duplicate := 0, unexpected := 0, stray := 0,
                     ejectMiss := 0, reportDrop := 0 } ∧
      t.pins = s.pins ∧ t.choice = s.choice ∧ t.pending = s.pending

/-- A STOP in IDLE is answered WRONG-STATE and changes nothing. Taken in HOMING or TRACKING: what each block keeps and
what it resets, with every in-use and reserved count 0 and every confirm queue empty where these matched the records. The
frames it queues are the purge's reports, marked UNSORTED and PURGED, with notices among them, and then its own REPLY.
With room for them all, there is one report for each record, in decreasing offset, and no notice (R15, R25, R46, R47, R50,
R51, R73, R115, R137, R162, R177, R187, R190). What fell due at the last advance is taken first (log 4). -/
def Obligations.StopLeaves : Prop :=
  ∀ (f : Frame) (before s : State), s = settled before → HeadOf .runControl f s → (loByte (word f 1)).toNat = 2 →
    CanBegin s →
    (s.trk.st = .idle → exec .stop before = .next (replied f { status := .wrongState } s)) ∧
    (s.trk.st ≠ .idle → ∃ t, exec .stop before = .next t ∧ t.geo = s.geo ∧ t.trk = { s.trk with st := .idle } ∧
      (∀ k : PocketNo, t.ring[k] = none) ∧ t.serial = s.serial ∧ t.loadPause = false ∧
      (∀ m : StationNo, t.stations[m] = { s.stations[m] with pulseEnd := none }) ∧
      (∀ id, (bankAt t.banks id).table = (bankAt s.banks id).table ∧
        (bankAt t.banks id).generation = (bankAt s.banks id).generation ∧
        (InUseMatches s → (bankAt t.banks id).inUse = 0)) ∧
      (t.banks.live = s.banks.live ∧ t.banks.generation = s.banks.generation ∧ t.banks.lock = s.banks.lock) ∧
      (∀ l : LaneNo, t.lanes[l].attr = s.lanes[l].attr ∧ t.lanes[l].capacity = s.lanes[l].capacity ∧
        t.lanes[l].delivered = s.lanes[l].delivered ∧ t.lanes[l].setup = s.lanes[l].setup ∧
        t.lanes[l].output = .inactive .rested ∧ (ReservedMatches s → t.lanes[l].reserved = 0) ∧
        (ConfirmQueuesMatch s → t.lanes[l].queue = [])) ∧
      t.overflow = s.overflow ∧
      t.mask = { masked := false, slip := false, reverse := false, forced := false, clean := 0, auto := s.mask.auto,
                 n := s.mask.n } ∧
      t.rx = s.rx ∧ t.inbound = s.inbound.tail ∧ t.tx = s.tx ∧
      (∃ mid, t.report = { s.report with
          queue := s.report.queue ++ mid ++ [.reply (frameTag f) 0x30 { status := .ok }], replyPlace := false } ∧
        (∀ x ∈ mid, (∃ flags, x = .event flags) ∨ ∃ r, x = .part r ∧ r.outcome = .unsorted ∧ r.purged = true) ∧
        (PositionInRange s → RecordsInPlace s → s.report.queue.length + recordsWith (fun _ => true) s < 28 →
          mid = purgeReports s (loadPocket s) ∧ t.counters = s.counters)) ∧
      (∀ i : Fin 49, i ≠ tallyUnsorted → t.tally[i] = s.tally[i]) ∧
      (s.tally[tallyUnsorted] + recordsWith (fun _ => true) s ≤ 4294967295 →
        t.tally[tallyUnsorted] = s.tally[tallyUnsorted] + recordsWith (fun _ => true) s) ∧
      t.events.enables = s.events.enables ∧
      (∀ i : Fin 14, i.val ≠ 13 → t.events.flags.getLsbD i = s.events.flags.getLsbD i) ∧
      t.counters = { s.counters with reportDrop := t.counters.reportDrop } ∧
      t.pins = s.pins ∧ t.choice = s.choice ∧ t.pending = s.pending)

/-- A START outside IDLE is answered WRONG-STATE. In IDLE with every relation of R188 it enters HOMING and changes nothing
else. With a relation that fails, it is answered BAD-GEOMETRY with the first failed check and, for checks 9 to 13, the
first station or lane that failed it, and nothing changes (R187, R188, R189, R225). What fell due at the last advance is
taken first (log 4). -/
def Obligations.StartDecided : Prop :=
  ∀ (f : Frame) (before s : State), s = settled before → HeadOf .runControl f s → (loByte (word f 1)).toNat = 1 →
    CanBegin s →
    (s.trk.st ≠ .idle → exec .start before = .next (replied f { status := .wrongState } s)) ∧
    (s.trk.st = .idle → (∀ n, 1 ≤ n → n ≤ 14 → StartRelation s n) →
      exec .start before = .next (replied f { status := .ok } (s.setTrk { s.trk with st := .homing }))) ∧
    ∀ n, s.trk.st = .idle → 1 ≤ n → n ≤ 14 → (∀ j, 1 ≤ j → j < n → StartRelation s j) → ¬ StartRelation s n →
      ∃ u, exec .start before =
          .next (replied f { status := .badGeometry, detail := BitVec.ofNat 8 (n * 16 + u) } s) ∧
        (n < 9 ∨ n = 14 → u = 0) ∧
        (9 ≤ n → n ≤ 11 → ∃ m : StationNo, u = m.val ∧ measures s.stations[m] ∧ ¬ StationRelation s m n ∧
          ∀ j : StationNo, j < m → measures s.stations[j] → StationRelation s j n) ∧
        (12 ≤ n → n ≤ 13 → ∃ l : LaneNo, u = l.val ∧ ¬ LaneRelation s l n ∧ ∀ j : LaneNo, j < l → LaneRelation s j n)

/-- PAUSE-LOAD, RESUME-LOAD and LOCK are accepted in every state with the one effect each has; LANE-EMPTY sets the named
lane's delivered count to 0, and is answered BAD-ARG for a lane number above 15 (R50, R111, R134). What fell due at the
last advance is taken first (log 4). -/
def Obligations.PlainOrdersDecided : Prop :=
  ∀ (f : Frame) (before s : State), s = settled before → CanBegin s →
    (HeadOf .runControl f s → (loByte (word f 1)).toNat = 3 →
      exec .pauseLoad before = .next (replied f { status := .ok } (s.setLoadPause true))) ∧
    (HeadOf .runControl f s → (loByte (word f 1)).toNat = 4 →
      exec .resumeLoad before = .next (replied f { status := .ok } (s.setLoadPause false))) ∧
    (HeadOf .lock f s →
      exec .lock before = .next (replied f { status := .ok } (s.setBanks { s.banks with lock := true }))) ∧
    (HeadOf .laneEmpty f s →
      (∀ l : LaneNo, (loByte (word f 1)).toNat = l.val →
        exec .laneEmpty before =
          .next (replied f { status := .ok } (modLane l (fun L => { L with delivered := 0 }) s))) ∧
      (16 ≤ (loByte (word f 1)).toNat → exec .laneEmpty before = .next (replied f { status := .badArg } s)))

/-! ## Setup frames -/

/-- GEOMETRY while unlocked: BUSY outside IDLE; in IDLE the carried values replace the geometry and pos is set to 0, or
BAD-ARG where a field is out of range (R4). What fell due at the last advance is taken first (log 4). -/
def Obligations.GeometryDecided : Prop :=
  ∀ (f : Frame) (before s : State), s = settled before → HeadOf .geometry f s → CanBegin s → s.banks.lock = false →
    (s.trk.st ≠ .idle → exec .geometry before = .next (replied f { status := .busy } s)) ∧
    (s.trk.st = .idle → ∀ mode, GeometryAllowed f mode →
      exec .geometry before =
        .next (replied f { status := .ok } ((s.setGeo (carriedGeometry f mode)).setTrk { s.trk with pos := 0 }))) ∧
    (s.trk.st = .idle → (∀ mode, ¬ GeometryAllowed f mode) →
      exec .geometry before = .next (replied f { status := .badArg } s))

/-- STATION while unlocked: BUSY outside IDLE; in IDLE the named station's setup is replaced, its expired list emptied,
its sequence counter and held temperature kept, or BAD-ARG where a field is out of range (R53). What fell due at the last
advance is taken first (log 4). -/
def Obligations.StationDecided : Prop :=
  ∀ (f : Frame) (before s : State), s = settled before → HeadOf .station f s → CanBegin s → s.banks.lock = false →
    (s.trk.st ≠ .idle → exec .station before = .next (replied f { status := .busy } s)) ∧
    (s.trk.st = .idle → ∀ m r, StationAllowed f s m r →
      exec .station before = .next (replied f { status := .ok } (modStation m (carriedStation f r) s))) ∧
    (s.trk.st = .idle → (∀ m r, ¬ StationAllowed f s m r) →
      exec .station before = .next (replied f { status := .badArg } s))

/-- LANE-SETUP while unlocked: BUSY outside IDLE; in IDLE the named lane's partner, offset and jet settings are replaced
and the rest of its record kept, or BAD-ARG where a field is out of range (R130). What fell due at the last advance is
taken first (log 4). -/
def Obligations.LaneSetupDecided : Prop :=
  ∀ (f : Frame) (before s : State), s = settled before → HeadOf .laneSetup f s → CanBegin s → s.banks.lock = false →
    (s.trk.st ≠ .idle → exec .laneSetup before = .next (replied f { status := .busy } s)) ∧
    (s.trk.st = .idle → ∀ l partner, LaneSetupAllowed f l partner →
      exec .laneSetup before =
        .next (replied f { status := .ok } (modLane l (fun L => { L with setup := carriedSetup f partner }) s))) ∧
    (s.trk.st = .idle → (∀ l partner, ¬ LaneSetupAllowed f l partner) →
      exec .laneSetup before = .next (replied f { status := .badArg } s))

/-- LANE-STATE: BAD-ARG outside its encodings; BAD-GEOMETRY with check 11 and the lane where it would take a lane out of
DISABLED at or before a station's deadline outside IDLE; otherwise the attribute, the capacity by R132 and the overflow
action, the LANE-FULL flag where the lane becomes FULL, and ADJUSTED where the capacity written is not the one asked for
(R121, R131, R132, R133, R225). What fell due at the last advance is taken first (log 4). -/
def Obligations.LaneStateDecided : Prop :=
  ∀ (f : Frame) (before s : State), s = settled before → HeadOf .laneState f s → CanBegin s →
    ((∀ (l : LaneNo) (a : LaneAttr) (o : OverflowAction),
        ¬ ((loByte (word f 1)).toNat = l.val ∧ AttrCode (hiByte (word f 2)) a ∧ ActionCode (loByte (word f 2)) o)) →
      exec .laneState before = .next (replied f { status := .badArg } s)) ∧
    ∀ (l : LaneNo) (a : LaneAttr) (o : OverflowAction), (loByte (word f 1)).toNat = l.val →
      AttrCode (hiByte (word f 2)) a → ActionCode (loByte (word f 2)) o →
      (s.trk.st ≠ .idle → s.lanes[l].attr = .disabled → a ≠ .disabled →
        ¬ (∀ m : StationNo, measures s.stations[m] →
          s.stations[m].offset + s.stations[m].deadline < s.lanes[l].setup.offset) →
        exec .laneState before =
          .next (replied f { status := .badGeometry, detail := BitVec.ofNat 8 (11 * 16 + l.val) } s)) ∧
      (s.trk.st = .idle ∨ s.lanes[l].attr ≠ .disabled ∨ a = .disabled ∨
          (∀ m : StationNo, measures s.stations[m] →
            s.stations[m].offset + s.stations[m].deadline < s.lanes[l].setup.offset) →
        ∀ cap, CapacityWritten (word f 3).toNat (s.lanes[l].delivered + s.lanes[l].reserved) cap →
          ∃ t, t = modLane l (fun L => { L with attr := a, capacity := cap }) (keepPlace s) ∧
            exec .laneState before =
              .next (replied f { status := if cap = (word f 3).toNat then .ok else .adjusted }
                ((if ¬ FullLane s.lanes[l] ∧ FullLane t.lanes[l] then raise .laneFull t else t).setOverflow
                  (designationAfter o l s.overflow))))

/-! ## Bank frames -/

/-- The checks of R96 in their order for a write frame while unlocked: BUSY while the STAGING bank's in-use count is above
0, BAD-ARG for a field out of range, and WRONG-STATE for a BIN-ENTRY or SPECIAL-ROUTE to an EMPTY bank. Nothing changes
(R96, R97, R98, R99). What fell due at the last advance is taken first (log 4). -/
def Obligations.StagingWritesRefused : Prop :=
  ∀ (f : Frame) (before s : State) (id : BankId), s = settled before → CanBegin s → s.banks.lock = false → IsStaging s id →
    (0 < (bankAt s.banks id).inUse →
      (HeadOf .bankHeader f s → exec .bankHeader before = .next (replied f { status := .busy } s)) ∧
      (HeadOf .binEntry f s → exec .binEntry before = .next (replied f { status := .busy } s)) ∧
      (HeadOf .specialRoute f s → exec .specialRoute before = .next (replied f { status := .busy } s))) ∧
    ((bankAt s.banks id).inUse = 0 →
      (HeadOf .bankHeader f s → ¬ HeaderAllowed f →
        exec .bankHeader before = .next (replied f { status := .badArg } s)) ∧
      (HeadOf .binEntry f s → (∀ i r, ¬ EntryAllowed f i r) →
        exec .binEntry before = .next (replied f { status := .badArg } s)) ∧
      (HeadOf .specialRoute f s → (∀ c r, ¬ SpecialAllowed f c r) →
        exec .specialRoute before = .next (replied f { status := .badArg } s)) ∧
      ((bankAt s.banks id).table.loaded = false →
        (HeadOf .binEntry f s → (∃ i r, EntryAllowed f i r) →
          exec .binEntry before = .next (replied f { status := .wrongState } s)) ∧
        (HeadOf .specialRoute f s → (∃ c r, SpecialAllowed f c r) →
          exec .specialRoute before = .next (replied f { status := .wrongState } s))))

/-- An accepted BANK-HEADER, BIN-ENTRY or SPECIAL-ROUTE writes the STAGING bank as it carries and changes nothing else
(R97, R98, R99). What fell due at the last advance is taken first (log 4). -/
def Obligations.StagingWritten : Prop :=
  ∀ (f : Frame) (before s : State) (id : BankId), s = settled before → CanBegin s → s.banks.lock = false → IsStaging s id →
    (bankAt s.banks id).inUse = 0 →
    (HeadOf .bankHeader f s → HeaderAllowed f →
      exec .bankHeader before =
        .next (replied f { status := .ok } (modBank id (fun k => { k with table := carriedTable f }) s))) ∧
    (HeadOf .binEntry f s → (bankAt s.banks id).table.loaded = true → ∀ i r, EntryAllowed f i r →
      exec .binEntry before =
        .next (replied f { status := .ok } (modBank id (fun k =>
          { k with table :=
              withEntry i { lo := (dword f 2).toInt, hi := (dword f 4).toInt, route := r } k.table }) s))) ∧
    (HeadOf .specialRoute f s → (bankAt s.banks id).table.loaded = true → ∀ c r, SpecialAllowed f c r →
      exec .specialRoute before =
        .next (replied f { status := .ok } (modBank id (fun k => { k with table := withSpecial c r k.table }) s)))

/-- BANK-SWAP while unlocked: with the STAGING bank LOADED and complete, the generation counter advances, the bank takes
its new value and becomes LIVE; otherwise INCOMPLETE and nothing changes (R104, R105). What fell due at the last advance
is taken first (log 4). -/
def Obligations.BankSwapDecided : Prop :=
  ∀ (f : Frame) (before s : State) (id : BankId), s = settled before → HeadOf .bankSwap f s → CanBegin s →
    s.banks.lock = false →
    IsStaging s id →
    (CompleteTable (bankAt s.banks id).table →
      ∃ t, exec .bankSwap before = .next (replied f { status := .ok } (s.setBanks t)) ∧ t.live = id ∧
        t.generation = s.banks.generation + 1 ∧ t.lock = s.banks.lock ∧
        bankAt t id = { bankAt s.banks id with generation := s.banks.generation + 1 } ∧
        ∀ j, j ≠ id → bankAt t j = bankAt s.banks j) ∧
    (¬ CompleteTable (bankAt s.banks id).table → exec .bankSwap before = .next (replied f { status := .incomplete } s))

/-- While the lock is set, the nine kinds of R112 are answered LOCKED and change nothing; the LOCK-VIOLATION flag is set
(R112, R113). What fell due at the last advance is taken first (log 4). -/
def Obligations.LockedRefusals : Prop :=
  ∀ (c : Instr) (k : Kind) (f : Frame) (before s : State), s = settled before →
    k ∈ [Kind.bankHeader, .binEntry, .specialRoute, .bankSwap, .geometry, .station, .laneSetup, .tallyClear,
      .formatSelect] → c.frameKind = some k → HeadOf k f s → CanBegin s → s.banks.lock = true →
    exec c before = .next (replied f { status := .locked } (raise .lockViolation (keepPlace s)))

/-! ## Mask and event orders -/

/-- MASK-CONTROL. FORCE adds FORCED and zeroes the clean count, and enters the mask from LIVE; RECOVER in TRACKING while
MASKED exits the mask, and is answered WRONG-STATE elsewhere; MODE replaces the recovery mode and N, or is answered
BAD-ARG (R169, R170, R171). What fell due at the last advance is taken first (log 4). -/
def Obligations.MaskOrdersDecided : Prop :=
  ∀ (f : Frame) (before s : State), s = settled before → HeadOf .maskControl f s → CanBegin s →
    ((loByte (word f 1)).toNat = 1 →
      (s.mask.masked = true →
        exec .force before = .next (replied f { status := .ok } (s.setMask { s.mask with forced := true, clean := 0 }))) ∧
      (s.mask.masked = false →
        exec .force before = .next (replied f { status := .ok } (enterMask ((keepPlace s).setMask
          { s.mask with slip := false, reverse := false, forced := true, clean := 0 }))))) ∧
    ((loByte (word f 1)).toNat = 2 →
      (s.trk.st = .tracking → s.mask.masked = true →
        exec .recover before = .next (replied f { status := .ok } (exitMask (keepPlace s)))) ∧
      (s.trk.st ≠ .tracking ∨ s.mask.masked = false →
        exec .recover before = .next (replied f { status := .wrongState } s))) ∧
    ((loByte (word f 1)).toNat = 3 →
      ((hiByte (word f 2)).toNat ≤ 1 → 1 ≤ (loByte (word f 2)).toNat → (loByte (word f 2)).toNat ≤ 15 →
        exec .mode before = .next (replied f { status := .ok } (s.setMask
          { s.mask with auto := (hiByte (word f 2)).toNat == 0, n := (loByte (word f 2)).toNat }))) ∧
      (2 ≤ (hiByte (word f 2)).toNat ∨ (loByte (word f 2)).toNat = 0 ∨ 16 ≤ (loByte (word f 2)).toNat →
        exec .mode before = .next (replied f { status := .badArg } s)))

/-- The mask's entry and exit at the event block and, in TRACKING, at each lane's output; they change the mask state as their
rules say and touch nothing else (R152, R153, R165, R168). That a line leaving its active level with a rest distance of 0 is
marked rested at once is the model's deduction (log 20). -/
def Obligations.MaskEntryAndExit : Prop :=
  ∀ s : State,
    (∃ t, enterMask s = raise .maskEnter t ∧ t = (s.setMask { s.mask with masked := true }).setLanes t.lanes ∧
      ∀ l : LaneNo, t.lanes[l] = { s.lanes[l] with output := t.lanes[l].output } ∧
        (s.trk.st ≠ .tracking → t.lanes[l].output = s.lanes[l].output) ∧
        (s.trk.st = .tracking → safeLevel s.lanes[l].setup = activeLevel s.lanes[l].setup →
          t.lanes[l].output = .inactive .cleared) ∧
        (s.trk.st = .tracking → safeLevel s.lanes[l].setup ≠ activeLevel s.lanes[l].setup →
          (isActive s.lanes[l] = false → t.lanes[l].output = s.lanes[l].output) ∧
          (isActive s.lanes[l] = true → 0 < s.lanes[l].setup.restDist →
            t.lanes[l].output = .inactive (.since s.trk.travel)) ∧
          (isActive s.lanes[l] = true → s.lanes[l].setup.restDist = 0 → t.lanes[l].output = .inactive .rested))) ∧
    (∃ t, exitMask s = raise .maskExit t ∧
      t = (s.setMask { s.mask with masked := false, slip := false, reverse := false, forced := false, clean := 0 }).setLanes
        t.lanes ∧
      ∀ l : LaneNo, t.lanes[l] = { s.lanes[l] with output := t.lanes[l].output } ∧
        (s.trk.st ≠ .tracking ∨ safeLevel s.lanes[l].setup ≠ activeLevel s.lanes[l].setup →
          t.lanes[l].output = s.lanes[l].output) ∧
        (s.trk.st = .tracking → safeLevel s.lanes[l].setup = activeLevel s.lanes[l].setup →
          (0 < s.lanes[l].setup.restDist → t.lanes[l].output = .inactive (.since s.trk.travel)) ∧
          (s.lanes[l].setup.restDist = 0 → t.lanes[l].output = .inactive .rested)))

/-- EVENT-CONTROL. ENABLE replaces the enables and CLEAR clears the named flags; a flag set with bit 15 or 14 is answered
BAD-ARG (R214, R215, R216). What fell due at the last advance is taken first (log 4). -/
def Obligations.EventControlDecided : Prop :=
  ∀ (f : Frame) (before s : State), s = settled before → HeadOf .eventControl f s → CanBegin s →
    ((loByte (word f 1)).toNat = 1 →
      ((word f 2).toNat < 16384 →
        exec .enable before = .next (replied f { status := .ok } (s.setEvents
          { s.events with enables := (word f 2).setWidth 14 }))) ∧
      (16384 ≤ (word f 2).toNat → exec .enable before = .next (replied f { status := .badArg } s))) ∧
    ((loByte (word f 1)).toNat = 2 →
      ((word f 2).toNat < 16384 →
        exec .clear before = .next (replied f { status := .ok } (s.setEvents
          { s.events with flags := s.events.flags &&& ~~~ ((word f 2).setWidth 14) }))) ∧
      (16384 ≤ (word f 2).toNat → exec .clear before = .next (replied f { status := .badArg } s)))

/-- While unlocked, TALLY-CLEAR zeroes every count and sets LOADED to the number of records not FREE; FORMAT-SELECT sets
the format and the mark once, is answered ALREADY-SET once the mark is set, and BAD-ARG for another format (R207, R210).
What fell due at the last advance is taken first (log 4). -/
def Obligations.TallyClearAndFormatSelectDecided : Prop :=
  ∀ (f : Frame) (before s : State), s = settled before → CanBegin s → s.banks.lock = false →
    (HeadOf .tallyClear f s →
      ∃ t : Vector Nat 49, exec .tallyClear before = .next (replied f { status := .ok } (s.setTally t)) ∧
        t[tallyLoaded] = recordsWith (fun _ => true) s ∧ ∀ i : Fin 49, i ≠ tallyLoaded → t[i] = 0) ∧
    (HeadOf .formatSelect f s →
      (s.report.formatMark = true → exec .formatSelect before = .next (replied f { status := .alreadySet } s)) ∧
      (s.report.formatMark = false →
        ((loByte (word f 1)).toNat = 1 ∨ (loByte (word f 1)).toNat = 2 →
          exec .formatSelect before = .next (replied f { status := .ok } (s.setReport
            { s.report with formatTwo := (loByte (word f 1)).toNat == 2, formatMark := true }))) ∧
        ((loByte (word f 1)).toNat = 0 ∨ 3 ≤ (loByte (word f 1)).toNat →
          exec .formatSelect before = .next (replied f { status := .badArg } s))))

/-! ## Queries -/

/-- STATUS, TALLY and COUNTERS: the data words of R225, read at the QUERY's event, and nothing else changes (R192, R193,
R195, R196, R225). What fell due at the last advance is taken first (log 4). -/
def Obligations.QueryStatusAndCountsAnswered : Prop :=
  ∀ (f : Frame) (before s : State), s = settled before → HeadOf .query f s → CanBegin s →
    ((loByte (word f 1)).toNat = 1 →
      exec .queryStatus before = .next (replied f
        { status := .ok
          data :=
            [bytes (match s.trk.st with | .idle => 0 | .homing => 1 | .tracking => 2)
              (s.mask.masked.toNat + 2 * s.mask.slip.toNat + 4 * s.mask.reverse.toNat + 8 * s.mask.forced.toNat +
                16 * (!s.mask.auto).toNat + 32 * s.loadPause.toNat + 64 * s.banks.lock.toNat +
                128 * s.report.formatMark.toNat),
             BitVec.ofNat 16 s.trk.pos, bytes s.mask.clean s.mask.n,
             bytes (match s.banks.live with | .a => 0 | .b => 1)
              (s.banks.a.table.loaded.toNat + 2 * s.banks.b.table.loaded.toNat +
                16 * (if s.report.formatTwo then 2 else 1)),
             bytes s.banks.a.inUse s.banks.b.inUse, s.banks.generation, s.events.flags.setWidth 16,
             bytes (s.inbound.length - 1) s.report.queue.length] } s)) ∧
    ((loByte (word f 1)).toNat = 5 →
      ((word f 2).toNat ≤ 48 → 1 ≤ (loByte (word f 3)).toNat →
        ∀ n, n = min (loByte (word f 3)).toNat (min 6 (49 - (word f 2).toNat)) →
          exec .queryTally before = .next (replied f
            { status := if n < (loByte (word f 3)).toNat then .adjusted else .ok, detail := BitVec.ofNat 8 n,
              data := (List.range n).flatMap fun i =>
                words32 (BitVec.ofNat 32 (s.tally.toList.getD ((word f 2).toNat + i) 0)) } s)) ∧
      (49 ≤ (word f 2).toNat ∨ (loByte (word f 3)).toNat = 0 →
        exec .queryTally before = .next (replied f { status := .badArg } s))) ∧
    ((loByte (word f 1)).toNat = 6 →
      exec .queryCounters before = .next (replied f
        { status := .ok
          data := [BitVec.ofNat 16 s.counters.runt, BitVec.ofNat 16 s.counters.badSum,
            BitVec.ofNat 16 s.counters.overrun, BitVec.ofNat 16 s.counters.late, BitVec.ofNat 16 s.counters.duplicate,
            BitVec.ofNat 16 s.counters.unexpected, BitVec.ofNat 16 s.counters.stray,
            BitVec.ofNat 16 s.counters.ejectMiss, BitVec.ofNat 16 s.counters.reportDrop] } s))

/-- POCKET, BANK-ENTRY and LANE: the data words of R225; nothing else changes but the model's counter of free values. The
words of a FREE record's generation and lot code (log 7), the limits of an UNSET entry (log 8), the reading of a received
CONTACT slot (log 9) and the number byte of a slot that no number was issued to (log 31) are free. The model's choices and
deductions: the route byte FF of an UNSET entry (log 8), the absent temperature of that CONTACT slot (log 9), 01 in d3
wherever a number was issued (log 31), and the confirm queue's length modulo 16 in its four bits, which no run exceeds
(log 21) (R114, R136, R192, R194, R225). What fell due at the last advance is taken first (log 4). -/
def Obligations.QueryRecordsAnswered : Prop :=
  ∀ (f : Frame) (before s : State), s = settled before → HeadOf .query f s → CanBegin s →
    ((loByte (word f 1)).toNat = 2 →
      (128 ≤ (word f 2).toNat ∨ 5 ≤ (word f 3).toNat →
        exec .queryPocket before = .next (replied f { status := .badArg } s)) ∧
      ∀ k : PocketNo, (word f 2).toNat = k.val →
        ((word f 3).toNat = 0 → s.ring[k] = none →
          ∃ (g : Word16) (lot : BitVec 32), exec .queryPocket before = .next (replied f
            { status := .ok
              data := [bytes 0 255, 0, 0, g] ++ words32 lot ++
                [bytes 255 255, 0x8000, 0, bytes 255 255, bytes 255 0] } (s.setChoice (s.choice + 1)))) ∧
        (∀ p x, (word f 3).toNat = 0 → s.ring[k] = some p → x = standing p.st →
          exec .queryPocket before = .next (replied f
            { status := .ok
              data := [bytes x.code (match p.bank with | .a => 0 | .b => 1)] ++ words32 p.serial ++ [p.generation] ++
                words32 p.lot ++ [classCodes x.verdict] ++ deviationCodes x.verdict ++
                [targetCodes x.target, bytes (reasonCode x.reason) (deviationFlags x.verdict)] }
            (s.setChoice (s.choice + 1)))) ∧
        (∀ m : StationNo, (word f 3).toNat = m.val + 1 →
          (s.ring[k] = none → exec .queryPocket before = .next (replied f
            { status := .ok, data := [0, 0, bytes 255 0, bytes 0 255, 0, 0, 0] } (s.setChoice (s.choice + 1)))) ∧
          (∀ p, s.ring[k] = some p → ∃ ws, SlotReply p.slots[m] ws ∧
            exec .queryPocket before = .next (replied f { status := .ok, data := words32 p.serial ++ ws }
              (s.setChoice (s.choice + 1)))))) ∧
    ((loByte (word f 1)).toNat = 3 →
      (2 ≤ (word f 2).toNat ∨ 26 ≤ (word f 3).toNat →
        exec .queryBankEntry before = .next (replied f { status := .badArg } s)) ∧
      ∀ id, (word f 2).toNat = (match id with | BankId.a => 0 | .b => 1) →
        (∀ i : Fin 24, (word f 3).toNat = i.val →
          (∀ e, (bankAt s.banks id).table.entries[i] = some e →
            exec .queryBankEntry before = .next (replied f
              { status := .ok
                data := [bytes 1 (match e.route with | some l => l.val | none => 255)] ++
                  words32 (BitVec.ofInt 32 e.lo) ++ words32 (BitVec.ofInt 32 e.hi) } (s.setChoice (s.choice + 1)))) ∧
          ((bankAt s.banks id).table.entries[i] = none →
            ∃ lo hi : BitVec 32, exec .queryBankEntry before = .next (replied f
              { status := .ok, data := [bytes 0 255] ++ words32 lo ++ words32 hi } (s.setChoice (s.choice + 1))))) ∧
        ((word f 3).toNat = 24 → ∀ b, b = bankAt s.banks id →
          exec .queryBankEntry before = .next (replied f
            { status := .ok
              data := [bytes b.table.loaded.toNat b.table.nb, b.table.range.setWidth 16] ++ words32 b.table.lot ++
                words32 (BitVec.ofNat 32 b.table.nexp) ++ [BitVec.ofInt 16 b.table.tcr, BitVec.ofNat 16 b.table.guard] ++
                words32 (BitVec.ofNat 32 b.table.stability) ++ [b.generation] } s)) ∧
        ((word f 3).toNat = 25 → ∀ t, t = (bankAt s.banks id).table →
          exec .queryBankEntry before = .next (replied f
            { status := .ok
              data := [t.routeOut, t.routeContact, t.routeMissing, t.routeInvalid, t.routeUnstable].map fun r =>
                bytes 0 (match r with | some l => l.val | none => 255) } s))) ∧
    ((loByte (word f 1)).toNat = 4 →
      (16 ≤ (word f 2).toNat → exec .queryLane before = .next (replied f { status := .badArg } s)) ∧
      ∀ (l : LaneNo) (L : Lane), (word f 2).toNat = l.val → s.lanes[l] = L →
        exec .queryLane before = .next (replied f
          { status := .ok
            data :=
              [bytes (match L.attr with | .opened => 0 | .held => 1 | .disabled => 2)
                ((if FullLane L then 1 else 0) + (if s.overflow = some l then 2 else 0) + 16 * (L.queue.length % 16)),
               BitVec.ofNat 16 L.capacity, BitVec.ofNat 16 L.delivered, BitVec.ofNat 16 L.reserved,
               bytes (match L.setup.partner with | some q => q.val | none => 255) L.setup.offset,
               BitVec.ofNat 16 L.setup.firePhase, BitVec.ofNat 16 L.setup.width, BitVec.ofNat 16 L.setup.firstShot,
               BitVec.ofNat 16 L.setup.restDist, BitVec.ofNat 16 L.setup.tailTrim, BitVec.ofNat 16 L.setup.window,
               bytes 0 (L.setup.activeLow.toNat + 2 * L.setup.safeLow.toNat + 4 * L.setup.safeHigh.toNat +
                8 * L.setup.confirm.toNat)] } s))

/-! ## The frame processor -/

/-- Frames that no owner executes: an unknown kind, counted UNEXPECTED at length 2 and answered UNKNOWN-KIND beyond it; a
management frame of another length than its kind's, answered BAD-LENGTH; an order or selector that is none of its kind's,
answered BAD-ARG (R172, R184, R187, R192, R214). Which command meets the last two is the model's choice, log 15. What fell
due at the last advance is taken first (log 4). -/
def Obligations.MalformedFramesAnswered : Prop :=
  ∀ (f : Frame) (before s : State), s = settled before → s.inbound.head? = some f →
    ((∀ k, kindCode k ≠ frameCode f) →
      (declaredLength f = 2 → exec .unknownKind before =
        .next (taken (s.setCounters { s.counters with unexpected := oneMore s.counters.unexpected }))) ∧
      (declaredLength f ≠ 2 → CanBegin s →
        exec .unknownKind before = .next (replied f { status := .unknownKind } s))) ∧
    (CanBegin s → ∀ (c : Instr) (k : Kind), c.frameKind = some k → isManagement k = true → frameCode f = kindCode k →
      (kindLength k ≠ some (declaredLength f) → exec c before = .next (replied f { status := .badLength } s)) ∧
      (kindLength k = some (declaredLength f) →
        ((k = .runControl ∧ ((loByte (word f 1)).toNat = 0 ∨ 6 ≤ (loByte (word f 1)).toNat)) ∨
          (k = .maskControl ∧ ((loByte (word f 1)).toNat = 0 ∨ 4 ≤ (loByte (word f 1)).toNat)) ∨
          (k = .eventControl ∧ ((loByte (word f 1)).toNat = 0 ∨ 3 ≤ (loByte (word f 1)).toNat)) ∨
          (k = .query ∧ ((loByte (word f 1)).toNat = 0 ∨ 7 ≤ (loByte (word f 1)).toNat))) →
        exec c before = .next (replied f { status := .badArg } s)))

/-- While the report queue's fill is 32 and no place is kept, a frame that needs a REPLY stays at the head and nothing
changes; a RUN-RESET does not wait (R186, R191). What fell due at the last advance is taken first (log 4). -/
def Obligations.StalledFrameWaits : Prop :=
  ∀ (f : Frame) (before s : State), s = settled before → s.inbound.head? = some f → s.report.replyPlace = false →
    32 ≤ fill s →
    (∀ (c : Instr) (k : Kind), c.frameKind = some k → isManagement k = true → frameCode f = kindCode k →
      ¬ (k = .runControl ∧ declaredLength f = 3 ∧ (loByte (word f 1)).toNat = 5) → exec c before = .next s) ∧
    ((∀ k, kindCode k ≠ frameCode f) → declaredLength f ≠ 2 → exec .unknownKind before = .next s)

/-- FILLER is discarded whatever it holds. TEMP sets the named station's held temperature to the carried value clamped to
−640 … +2,000; a station above 3 or another length is counted UNEXPECTED (R71, R183, R184). What fell due at the last
advance is taken first (log 4). -/
def Obligations.FillerAndTempExecuted : Prop :=
  ∀ (f : Frame) (before s : State), s = settled before → s.inbound.head? = some f →
    (frameCode f = 0x00 → exec .filler before = .next (taken s)) ∧
    (frameCode f = 0x02 →
      (declaredLength f = 4 → ∀ m : StationNo, (hiByte (word f 1)).toNat = m.val →
        exec .temp before = .next (taken (modStation m
          (fun x => { x with temp := some (max (-640) (min 2000 (word f 2).toInt)) }) s))) ∧
      (declaredLength f ≠ 4 ∨ 4 ≤ (hiByte (word f 1)).toNat →
        exec .temp before = .next (taken (s.setCounters
          { s.counters with unexpected := oneMore s.counters.unexpected }))))

/-! ## Results -/

/-- A RESULT whose number an AWAIT record holds OUTSTANDING at the station is accepted into that slot. While another slot
is unresolved the record waits on; with the last slot resolved it is classified in the same event (R60, R61, R62, R63).
What fell due at the last advance is taken first (log 4). -/
def Obligations.ResultFiled : Prop :=
  ∀ (f : Frame) (before s : State) (m : StationNo) (k : PocketNo) (p : Part) (x : Slot), s = settled before →
    s.inbound.head? = some f → frameCode f = 0x01 → declaredLength f = 6 → (hiByte (word f 1)).toNat = m.val →
    ResultLeaves s f m x →
    s.ring[k] = some p → p.st = .await → p.slots[m] = some (.outstanding (loByte (word f 1))) →
    (∀ (j : PocketNo) (q : Part), s.ring[j] = some q → q.st = .await →
      q.slots[m] = some (.outstanding (loByte (word f 1))) → j = k) →
    (othersUnresolved m p = true →
      exec .result before = .next (taken (setRecord k (some { p with slots := p.slots.set m (some x) }) s))) ∧
    (othersUnresolved m p = false →
      exec .result before = .next (taken (classify k (setRecord k (some { p with slots := p.slots.set m (some x) }) s))))

/-- A RESULT that is not accepted changes no record: another length or row 1 of R60 counts it UNEXPECTED; a number in the
station's expired list counts it LATE and sets the LATE flag; a number already received at the station counts it
DUPLICATE; any other counts it UNEXPECTED (R60, R64, R65, R66, R184). What fell due at the last advance is taken first
(log 4). -/
def Obligations.ResultDiscarded : Prop :=
  ∀ (f : Frame) (before s : State), s = settled before → s.inbound.head? = some f → frameCode f = 0x01 →
    (declaredLength f ≠ 6 ∨ RowOne s f →
      exec .result before = .next (taken (s.setCounters
        { s.counters with unexpected := oneMore s.counters.unexpected }))) ∧
    (∀ (m : StationNo) (x : Slot), declaredLength f = 6 → (hiByte (word f 1)).toNat = m.val → ResultLeaves s f m x →
      (∀ (j : PocketNo) (q : Part), s.ring[j] = some q → q.st = .await →
        q.slots[m] ≠ some (.outstanding (loByte (word f 1)))) →
      (loByte (word f 1) ∈ s.stations[m].expired →
        exec .result before = .next (taken (raise .late (s.setCounters
          { s.counters with late := oneMore s.counters.late })))) ∧
      (loByte (word f 1) ∉ s.stations[m].expired →
        ((∃ (j : PocketNo) (q : Part), s.ring[j] = some q ∧
            ((∃ st, q.slots[m] = some (.contact (loByte (word f 1)) st)) ∨
              ∃ r, q.slots[m] = some (.reading (loByte (word f 1)) r))) →
          exec .result before = .next (taken (s.setCounters
            { s.counters with duplicate := oneMore s.counters.duplicate }))) ∧
        ((∀ (j : PocketNo) (q : Part), s.ring[j] = some q →
            (∀ st, q.slots[m] ≠ some (.contact (loByte (word f 1)) st)) ∧
              ∀ r, q.slots[m] ≠ some (.reading (loByte (word f 1)) r)) →
          exec .result before = .next (taken (s.setCounters
            { s.counters with unexpected := oneMore s.counters.unexpected })))))

/-! ## Classification -/

/-- The classification event of an AWAIT record with every slot resolved: the verdict of its bound bank's table, the bank's
in-use count one lower, the class counted at its tally entry, the MISSING flag for that class, and the bank's route for the
verdict resolved over the lane, its partner and the overflow lane: the first with room is reserved and becomes the target,
with the LANE-FULL flag where that fills it; with none the record strands. The candidates stand in that order without
repeats, and room is an OPEN lane of capacity 0 or with its counts below its capacity
(R33, R87, R108, R109, R120, R123, R124, R208). -/
def Obligations.ClassificationEvent : Prop :=
  (∀ (k : PocketNo) (p : Part) (s : State) (v : Verdict) (n : Fin 49), s.ring[k] = some p → p.st = .await →
    (∀ (m : StationNo) (x : Slot), p.slots[m] = some x → isResolved x = true) →
    v = decideVerdict (bankAt s.banks p.bank).table s.stations p.slots → n.val = classEntry v →
    ∃ t, t = (if v = .missing then raise .missing else id)
        (tallyCount n (modBank p.bank (fun b => { b with inUse := b.inUse - 1 }) s)) ∧
      (handedRoute (bankAt s.banks p.bank).table v = none →
        classify k s = setRecord k (some { p with st := .stranded v none .noRoute }) t) ∧
      ∀ d : LaneNo, handedRoute (bankAt s.banks p.bank).table v = some d →
        (∀ c ∈ candidates s d, hasRoom s.lanes[c.lane] = false) ∧
            classify k s = setRecord k (some { p with st := .stranded v none .noLane }) t ∨
          ∃ earlier c later, candidates s d = earlier ++ c :: later ∧
            (∀ x ∈ earlier, hasRoom s.lanes[x.lane] = false) ∧ hasRoom s.lanes[c.lane] = true ∧
            ∃ u, u = modLane c.lane (fun L => { L with reserved := L.reserved + 1 }) t ∧
              classify k s = setRecord k (some { p with st := .routed v c })
                (if FullLane u.lanes[c.lane] then raise .laneFull u else u)) ∧
  (∀ (s : State) (d : LaneNo), ((candidates s d).map (·.lane)).Nodup ∧
    (candidates s d).head? = some { lane := d, kind := .direct } ∧
    (∀ q, s.lanes[d].setup.partner = some q → q ≠ d → { lane := q, kind := .partner } ∈ candidates s d) ∧
    (∀ o, s.overflow = some o → o ≠ d → s.lanes[d].setup.partner ≠ some o →
      (candidates s d).getLast? = some { lane := o, kind := .overflow }) ∧
    ∀ c ∈ candidates s d, c = { lane := d, kind := .direct } ∨
      (c.kind = .partner ∧ s.lanes[d].setup.partner = some c.lane) ∨ (c.kind = .overflow ∧ s.overflow = some c.lane)) ∧
  ∀ L : Lane, hasRoom L = true ↔ L.attr = .opened ∧ (L.capacity = 0 ∨ L.delivered + L.reserved < L.capacity)

/-- The class of a verdict is the first row of R85 that the record meets: a recorded contact failure, an expired slot, an
invalid reading. Otherwise one reading gives its D with its flags, and two give the rounded mean with either's flags and
UNSTABLE exactly where S is above 0 and they differ by more than S. The bin is the one of smallest index below nb whose
window holds D, and OUT where none does (R77, R82, R83, R84, R85, R88). -/
def Obligations.VerdictClassDecided : Prop :=
  ∀ (tb : Table) (stations : Vector Station 4) (slots : Vector (Option Slot) 4) (v : Verdict),
    v = decideVerdict tb stations slots →
    ((∃ (m : StationNo) (q : BitVec 8) (st : ContactStatus), slots[m] = some (.contact q st) ∧ st ≠ .ok) ↔ v = .contact) ∧
    (v ≠ .contact → ((∃ (m : StationNo) (q : Option (BitVec 8)), slots[m] = some (.expired q)) ↔ v = .missing)) ∧
    (v ≠ .contact → v ≠ .missing →
      ((∃ (m : StationNo) (q : BitVec 8) (r : Reading), slots[m] = some (.reading q r) ∧
        ¬ (r.overload = false ∧ r.range = tb.range ∧ r.n.toNat ≤ 8388606)) ↔ v = .invalid)) ∧
    (v ≠ .contact → v ≠ .missing → v ≠ .invalid → ∀ (m : StationNo) (q : BitVec 8) (r : Reading) (x : Deviation),
      slots[m] = some (.reading q r) → x = deviationOf tb stations[m].trim r →
      ((∀ k : StationNo, k ≠ m → ∀ q' r', slots[k] ≠ some (.reading q' r')) →
        deviationIn v = some x ∧ ∀ d, v ≠ .unstable d) ∧
      ∀ (n : StationNo) (q2 : BitVec 8) (r2 : Reading) (y : Deviation), m < n → slots[n] = some (.reading q2 r2) →
        y = deviationOf tb stations[n].trim r2 →
        (∀ k : StationNo, k ≠ m → k ≠ n → ∀ q' r', slots[k] ≠ some (.reading q' r')) →
        deviationIn v = some { d := roundHalfAway (x.d + y.d) 2, clamped := x.clamped || y.clamped,
                               tnone := x.tnone || y.tnone } ∧
        ((∃ d, v = .unstable d) ↔ 0 < tb.stability ∧ tb.stability < (x.d - y.d).natAbs)) ∧
    (∀ i d, v = .bin i d → i.val < tb.nb ∧
      (∃ e, tb.entries[i] = some e ∧ e.lo + tb.guard ≤ d.d ∧ d.d ≤ e.hi - tb.guard) ∧
      ∀ j : Fin 24, j < i → ∀ e, tb.entries[j] = some e → ¬ (e.lo + tb.guard ≤ d.d ∧ d.d ≤ e.hi - tb.guard)) ∧
    ∀ d, v = .out d → ∀ i : Fin 24, i.val < tb.nb → ∀ e, tb.entries[i] = some e →
      ¬ (e.lo + tb.guard ≤ d.d ∧ d.d ≤ e.hi - tb.guard)

/-- The deviation arithmetic. Division rounds half away from zero. The raw deviation is the rounded quotient of
10,000,000 times N − Nexp by Nexp; for valid readings it lies in −10,000,000 … 69,999,981, with the low end at every N = 0 and
the high end at the largest reading on the smallest Nexp. The temperature correction is the rounded quotient of TCR times T − 400 by 16, with none taken as
400, and lies in −500,000 … +500,000. D3 is the raw deviation plus the trim less the correction; D is D3 clamped to
−10,000,000 … +10,000,000, CLAMPED exactly where D3 lies outside these limits, and TNONE exactly where the copy is none. The D
of every verdict lies within the limits (R75, R76, R78, R80, R81, R83, R84). -/
def Obligations.DeviationInRange : Prop :=
  (∀ (a : Int) (b : Nat), 0 < b → Rounds a b (roundHalfAway a b)) ∧
  (∀ n nexp : Nat, 0 < nexp → Rounds (((n : Int) - nexp) * 10000000) nexp (rawDeviation n nexp)) ∧
  (∀ n nexp : Nat, n ≤ 8388606 → 1048576 ≤ nexp → nexp ≤ 8000000 →
    (-10000000 ≤ rawDeviation n nexp ∧ rawDeviation n nexp ≤ 69999981) ∧ rawDeviation 0 nexp = -10000000 ∧
      rawDeviation 8388606 1048576 = 69999981) ∧
  (∀ (tcr : Int) (temp : Option Int),
    (∀ x, temp = some x → Rounds (tcr * (x - 400)) 16 (tempCorrection tcr temp)) ∧
    (temp = none → tempCorrection tcr temp = 0) ∧
    (-5000 ≤ tcr → tcr ≤ 5000 → (∀ x, temp = some x → -640 ≤ x ∧ x ≤ 2000) →
      -500000 ≤ tempCorrection tcr temp ∧ tempCorrection tcr temp ≤ 500000)) ∧
  (∀ (tb : Table) (trim d3 : Int) (r : Reading),
    d3 = rawDeviation r.n.toNat tb.nexp + trim - tempCorrection tb.tcr r.temp →
    (deviationOf tb trim r).d = (if d3 < -10000000 then -10000000 else if 10000000 < d3 then 10000000 else d3) ∧
    ((deviationOf tb trim r).clamped = true ↔ d3 < -10000000 ∨ 10000000 < d3) ∧
    ((deviationOf tb trim r).tnone = true ↔ r.temp = none)) ∧
  ∀ (tb : Table) (stations : Vector Station 4) (slots : Vector (Option Slot) 4) (d : Deviation),
    deviationIn (decideVerdict tb stations slots) = some d → -10000000 ≤ d.d ∧ d.d ≤ 10000000

/-! ## Motion -/

/-- Every ENCODER_COUNT samples PPS and takes the new pair as the quadrature reference (PPS and a step that is no count as
log 29 has them). Outside TRACKING a count moves pos alone. In TRACKING, a forward count behind the mark reduces the lag;
a backward count grows it, raises REVERSE when it passes H with the detector armed, and a SLIP instead where it would
bring the lag to C; a step that is no count changes nothing more. The fault REVERSE becomes the one reason of a LIVE mask, which
enters MASKED; it joins the reasons of a MASKED one, with no entry: no lane output changes and no MASK-ENTER is raised; the
clean count is 0 either way. The model's readings: such a SLIP sets no REVERSE (log 16), its purge goes by the pocket at the load station before the
count (log 12), and REVERSE enters the mask before it sets its flag (log 19) (R1, R2, R6, R7, R12, R13, R23, R164). What
fell due at the last advance is taken first (log 4). -/
def Obligations.CountsWithoutAdvance : Prop :=
  (∀ u : State,
    (u.mask.masked = false → motionFault .reverse u =
      enterMask (u.setMask { u.mask with slip := false, reverse := true, forced := false, clean := 0 })) ∧
    (u.mask.masked = true → motionFault .reverse u = u.setMask { u.mask with reverse := true, clean := 0 })) ∧
  ∀ (a b pps : Bool) (before s t : State), s = settled before → PositionInRange s → t = counted a b pps s →
    (s.trk.st ≠ .tracking →
      exec (.encoderCount a b pps) before = .next (t.setTrk { t.trk with pos := posAfter s (countOf s a b) })) ∧
    (s.trk.st = .tracking →
      (countOf s a b = 0 → exec (.encoderCount a b pps) before = .next t) ∧
      (countOf s a b = 1 → 0 < s.trk.lag →
        exec (.encoderCount a b pps) before =
          .next (t.setTrk { t.trk with pos := posAfter s 1, lag := s.trk.lag - 1 })) ∧
      (countOf s a b = -1 → s.trk.lag + 1 < s.geo.c →
        ∀ u, u = t.setTrk { t.trk with pos := posAfter s (-1), lag := s.trk.lag + 1 } →
          (s.trk.lag + 1 ≤ s.geo.h ∨ s.trk.armed = false → exec (.encoderCount a b pps) before = .next u) ∧
          (s.geo.h < s.trk.lag + 1 → s.trk.armed = true →
            exec (.encoderCount a b pps) before =
              .next (raise .reverse (motionFault .reverse (u.setTrk { u.trk with armed := false }))))) ∧
      (countOf s a b = -1 → s.geo.c ≤ s.trk.lag + 1 →
        exec (.encoderCount a b pps) before =
          .next (slip (loadPocket s) (t.setTrk { t.trk with pos := posAfter s (-1) }))))

/-- A forward count in TRACKING with the lag 0 advances pos, the mark and travel by one, re-arms the reverse detector, and
hands the new position on: the pitch event first where its phase is 0, then the phase event. The phase event is the load
sample, then each station's trigger, then each lane's fire. The pitch event is each lane's pass check, then the departure,
and before these, at most, the deadlines of that pitch event, only where one is due. These orders are the model's choice
(log 10; the deadlines log 6) (R6, R9, R10, R38, R40). What fell due at the last advance is taken first (log 4). -/
def Obligations.MarkAdvances : Prop :=
  (∀ (a b pps : Bool) (before s u : State), s = settled before → PositionInRange s → s.trk.st = .tracking →
    countOf s a b = 1 → s.trk.lag = 0 → u = markMoved (counted a b pps s) →
    exec (.encoderCount a b pps) before = .next (markEvents none u) ∧
      (markEvents none u).trk = u.trk ∧ (markEvents none u).pins = u.pins ∧ (markEvents none u).geo = s.geo ∧
      phase u = posAfter s 1 % pitch s.geo) ∧
  (∀ (e : Option Travel) (u : State),
    phaseEvent e u = (List.finRange 16).foldl (fun x l => firePhase e l x)
      ((List.finRange 4).foldl (fun x m => triggerPhase e m x) (loadSample u))) ∧
  ∀ u : State, ∃ v, pitchEvent u = departure ((List.finRange 16).foldl (fun x l => passCheck l x) v) ∧
    (v = u ∨ (∃ m, deadlineDue u m = true) ∧ (v = u.setChoice (u.choice + 1) ∨
      v = (List.finRange 4).foldl (fun x m => takeDeadline m x) (u.setChoice (u.choice + 1))))

/-- INDEX_EVENT samples PPS; in IDLE nothing else happens; in HOMING it homes: pos at the index offset, the lag, travel
and index reference 0, the detector armed, TRACKING entered; with the mask LIVE nothing else changes, and with the mask
standing each lane takes it as an entry with no run (R13, R14, R173). What fell due at the last advance is taken first
(log 4). -/
def Obligations.IndexHomes : Prop :=
  ∀ (pps : Bool) (before s t : State), s = settled before → t = s.setPins { s.pins with pps := pps } →
    (s.trk.st = .idle → exec (.indexEvent pps) before = .next t) ∧
    (s.trk.st = .homing → ∀ u, u = t.setTrk
        { s.trk with st := .tracking, pos := s.geo.indexOffset, lag := 0, travel := 0, indexRef := 0, armed := true } →
      (s.mask.masked = false → exec (.indexEvent pps) before = .next u) ∧
      (s.mask.masked = true → ∃ v, exec (.indexEvent pps) before = .next v ∧ v = u.setLanes v.lanes ∧
        ∀ l : LaneNo, v.lanes[l] = { s.lanes[l] with output := v.lanes[l].output } ∧
          (safeLevel s.lanes[l].setup = activeLevel s.lanes[l].setup → v.lanes[l].output = .inactive .cleared) ∧
          (safeLevel s.lanes[l].setup ≠ activeLevel s.lanes[l].setup → isActive s.lanes[l] = false →
            v.lanes[l].output = s.lanes[l].output)))

/-- An index in TRACKING, at a signed circular distance δ of pos from the index offset. Within Ti it re-aligns pos to the
index offset: a gain grows the lag, a loss first reduces it and then advances the mark through the rest, position by
position, each with its pitch and phase events and its travel points (which no missing index joins: log 14); an index that
counts for the revolution sets the index reference and reports a clean revolution. Beyond Ti, or where a gain would bring
the lag to C, the tracker raises SLIP with pos at the index offset; its purge goes by the pocket at the load station
before the re-alignment, the model's deduction (log 12). A clean revolution changes nothing with the mask LIVE; while MASKED
it raises the clean count by one, up to 15, and the mask exits exactly where recovery is AUTO, the count is then at or above
N and FORCED is not held (R16, R17, R18, R19, R21, R23, R166, R167). What fell due at the last advance is taken first
(log 4). -/
def Obligations.IndexChecked : Prop :=
  (∀ u : State,
    (u.mask.masked = false → cleanRevolution u = u) ∧
    ∀ n t, u.mask.masked = true → (u.mask.clean < 15 → n = u.mask.clean + 1) → (15 ≤ u.mask.clean → n = u.mask.clean) →
      t = u.setMask { u.mask with clean := n } →
      (u.mask.auto = true → u.mask.n ≤ n → u.mask.forced = false → cleanRevolution u = exitMask t) ∧
      (u.mask.auto = false ∨ n < u.mask.n ∨ u.mask.forced = true → cleanRevolution u = t)) ∧
  ∀ (pps : Bool) (before s t : State) (δ : Int), s = settled before → PositionInRange s → s.trk.st = .tracking →
    t = s.setPins { s.pins with pps := pps } →
    ((s.trk.pos : Int) - s.geo.indexOffset - δ) % s.geo.c = 0 → -(s.geo.c : Int) ≤ 2 * δ → 2 * δ < s.geo.c →
    (s.geo.ti < δ.natAbs →
      exec (.indexEvent pps) before = .next (slip (loadPocket s)
        (t.setTrk { s.trk with pos := s.geo.indexOffset, capture := s.trk.pos }))) ∧
    (δ.natAbs ≤ s.geo.ti → 0 ≤ δ → s.geo.c ≤ s.trk.lag + δ.natAbs →
      exec (.indexEvent pps) before = .next (slip (loadPocket s)
        (t.setTrk { s.trk with pos := s.geo.indexOffset, capture := s.trk.pos }))) ∧
    (δ.natAbs ≤ s.geo.ti → 0 ≤ δ → s.trk.lag + δ.natAbs < s.geo.c →
      (0 < s.trk.lag → exec (.indexEvent pps) before = .next (t.setTrk
        { s.trk with pos := s.geo.indexOffset, capture := s.trk.pos, lag := s.trk.lag + δ.natAbs })) ∧
      (s.trk.lag = 0 → exec (.indexEvent pps) before = .next (cleanRevolution (t.setTrk
        { s.trk with pos := s.geo.indexOffset, capture := s.trk.pos, lag := δ.natAbs,
                     indexRef := s.trk.travel - BitVec.ofNat 32 δ.natAbs })))) ∧
    (δ.natAbs ≤ s.geo.ti → δ < 0 → δ.natAbs ≤ s.trk.lag →
      exec (.indexEvent pps) before = .next (t.setTrk
        { s.trk with pos := s.geo.indexOffset, capture := s.trk.pos, lag := s.trk.lag - δ.natAbs })) ∧
    (δ.natAbs ≤ s.geo.ti → δ < 0 → s.trk.lag < δ.natAbs →
      ∀ k e, k = δ.natAbs - s.trk.lag → e = s.trk.travel + BitVec.ofNat 32 k →
      ∃ x : Nat → State,
        x 0 = t.setTrk { s.trk with pos := posAfter s s.trk.lag, capture := s.trk.pos, lag := 0 } ∧
        (∀ i, i < k → x (i + 1) = takeTravelPoints (markEvents (some e) (markMoved (x i)))) ∧
        (x k).trk = { s.trk with pos := s.geo.indexOffset, capture := s.trk.pos, lag := 0, armed := true, travel := e } ∧
        exec (.indexEvent pps) before = .next (cleanRevolution ((x k).setTrk { (x k).trk with indexRef := e })))

/-- SLIP_MISSING_INDEX takes effect exactly where travel has reached the index reference plus C + Ti + 1, after the points that
stand at the same travel: it raises SLIP. Elsewhere it changes nothing. Both are the model's choice (log 4). A SLIP brings the
mark to pos as it stands and the index reference to the present travel, arms the detector and purges every record; the mask
stands with reason SLIP, and with the reasons it had where it stood before, its clean count 0; the SLIP flag is set, and
MASK-ENTER where the mask was LIVE (R20, R22, R46, R164, R165). -/
def Obligations.MissingIndexSlips : Prop :=
  (∀ s u : State, u = opened (runAll pointCommands s) →
    (s.trk.st = .tracking → s.trk.travel = s.trk.indexRef + BitVec.ofNat 32 (s.geo.c + s.geo.ti + 1) →
      exec .slipMissingIndex s = .next (slip (loadPocket u) u)) ∧
    (s.trk.st ≠ .tracking ∨ s.trk.travel ≠ s.trk.indexRef + BitVec.ofNat 32 (s.geo.c + s.geo.ti + 1) →
      exec .slipMissingIndex s = .next s)) ∧
  ∀ (load : Nat) (u t : State), t = slip load u →
    t.trk = { u.trk with lag := 0, indexRef := u.trk.travel, armed := true } ∧
    (∀ k : PocketNo, t.ring[k] = none) ∧
    (t.mask.masked = true ∧ t.mask.slip = true ∧ t.mask.clean = 0 ∧
      (u.mask.masked = true → t.mask.reverse = u.mask.reverse ∧ t.mask.forced = u.mask.forced) ∧
      (u.mask.masked = false → t.mask.reverse = false ∧ t.mask.forced = false)) ∧
    t.events.flags.getLsbD 0 = true ∧ (u.mask.masked = false → t.events.flags.getLsbD 2 = true) ∧
    (∀ l : LaneNo, t.lanes[l].delivered = u.lanes[l].delivered) ∧ t.serial = u.serial ∧ t.stations = u.stations ∧
    t.geo = u.geo ∧ t.inbound = u.inbound ∧ t.loadPause = u.loadPause

/-- A purge frees every record. Where the counts and queues matched the records, it leaves every in-use and reserved count 0
and every confirm queue empty. A purge that reports, with room in the report queue, hands one PART report for each record,
UNSORTED and PURGED, in decreasing offset; one that does not report leaves the report queue as it is
(R45, R46, R47, R48). -/
def Obligations.PurgeFreesEveryRecord : Prop :=
  ∀ (load : Nat) (reports : Bool) (s : State),
    (∀ k : PocketNo, (purge load reports s).ring[k] = none) ∧
    (InUseMatches s → ∀ id, (bankAt (purge load reports s).banks id).inUse = 0) ∧
    (ReservedMatches s → ∀ l : LaneNo, (purge load reports s).lanes[l].reserved = 0) ∧
    (ConfirmQueuesMatch s → ∀ l : LaneNo, (purge load reports s).lanes[l].queue = []) ∧
    (reports = true → PositionInRange s → (∀ k : PocketNo, s.geo.pn ≤ k.val → s.ring[k] = none) →
      fill s + recordsWith (fun _ => true) s ≤ 28 →
      (purge load reports s).report = { s.report with queue := s.report.queue ++ purgeReports s load }) ∧
    (reports = false → (purge load reports s).report = s.report)

/-! ## Records on the turret -/

/-- At the load phase with LOADEN and PPS high, the FREE record at the load station becomes AWAIT with the serial counter's
value, the LIVE bank's letter, generation and lot code, and a PENDING slot for each station with a role; the serial counter
advances from its largest value to 1, and the bank's in-use count and LOADED rise. With LOADEN or PPS low, or at another
phase, nothing happens (R27, R29, R30, R31, R32, R49, R101). -/
def Obligations.LoadSampled : Prop :=
  ∀ s : State,
    (phase s = s.geo.loadPhase → s.trk.st = .tracking → s.mask.masked = false → s.loadPause = false →
      s.pins.pps = true → s.ring[pocketAt s 0] = none →
      ∃ p, p.st = .await ∧ p.serial = s.serial ∧ p.bank = s.banks.live ∧
        p.generation = (bankAt s.banks s.banks.live).generation ∧ p.lot = (bankAt s.banks s.banks.live).table.lot ∧
        (∀ m : StationNo, p.slots[m] = if s.stations[m].role = .none then none else some .waiting) ∧
        loadSample s = tallyCount tallyLoaded (modBank s.banks.live (fun b => { b with inUse := b.inUse + 1 })
          ((setRecord (pocketAt s 0) (some p) s).setSerial (if s.serial.toNat = 4294967295 then 1 else s.serial + 1)))) ∧
    (phase s ≠ s.geo.loadPhase ∨ s.trk.st ≠ .tracking ∨ s.mask.masked = true ∨ s.loadPause = true ∨
        s.pins.pps = false → loadSample s = s)

/-- At a station's trigger phase, an AWAIT record at its offset with its slot PENDING is due: a PREC station with
skip-on-contact-fail skips it beside a recorded contact failure: the slot becomes SKIPPED and no counter or line moves; with
another slot unresolved the record waits on, and with the last resolved it is classified in the same event. Otherwise the
sequence counter advances, the slot becomes OUTSTANDING with its new value, and MTRIG goes active until travel reaches T plus
the width, or, inside the span of a forward re-alignment that holds that point, until the first advance after the span. An
earlier pulse that has not ended is taken over, the model's choice (log 30). A station that is not due does nothing (R33,
R55, R56, R57). -/
def Obligations.TriggerIssued : Prop :=
  ∀ (e : Option Travel) (m : StationNo) (s : State) (x : Station), s.stations[m] = x →
    (∀ p, x.role ≠ .none → phase s = x.trigPhase → x.offset < s.geo.pn → s.ring[pocketAt s x.offset] = some p →
      p.st = .await → p.slots[m] = some .waiting →
      (x.role = .prec → x.skip = true → contactFailed p.slots = true →
        ∀ t, t = setRecord (pocketAt s x.offset) (some { p with slots := p.slots.set m (some .skipped) }) s →
          (othersUnresolved m p = true → triggerPhase e m s = t) ∧
          (othersUnresolved m p = false → triggerPhase e m s = classify (pocketAt s x.offset) t)) ∧
      (x.role ≠ .prec ∨ x.skip = false ∨ contactFailed p.slots = false →
        triggerPhase e m s =
          modStation m
            (fun y => { y with seq := x.seq + 1, pulseEnd := some (pointAfter e s.trk.travel x.trigWidth) })
            (setRecord (pocketAt s x.offset)
              (some { p with slots := p.slots.set m (some (.outstanding (x.seq + 1))) }) s))) ∧
    (x.role = .none ∨ phase s ≠ x.trigPhase ∨ s.geo.pn ≤ x.offset ∨
        (∀ p, s.ring[pocketAt s x.offset] = some p → p.st ≠ .await ∨ p.slots[m] ≠ some .waiting) →
      triggerPhase e m s = s)

/-- DEADLINE_EXPIRY for an AWAIT record at a station's offset plus its deadline: an OUTSTANDING slot expires with its number at
the newest end of the expired list, which keeps its last 8; a PENDING slot expires without one; the last slot's expiry
hands the record to classification. A record in another state, or with its slot resolved, is left alone. Outside TRACKING it
changes nothing, the model's choice (log 4). A notice with a place handed to it is admitted first (log 17) (R68, R70). -/
def Obligations.DeadlineExpires : Prop :=
  ∀ (m : StationNo) (before s : State) (k : PocketNo), s = opened before →
    k = pocketAt s (s.stations[m].offset + s.stations[m].deadline) →
    (∀ p, s.trk.st = .tracking → s.stations[m].role ≠ .none →
      s.stations[m].offset + s.stations[m].deadline < s.geo.pn → s.ring[k] = some p → p.st = .await →
      (∀ q, p.slots[m] = some (.outstanding q) →
        ∃ older t, older ++ [q] = t ∧
          (s.stations[m].expired.length ≤ 7 → older = s.stations[m].expired) ∧
          (8 ≤ s.stations[m].expired.length → older = s.stations[m].expired.tail) ∧
          exec (.deadlineExpiry m) before = .next (classify k
            (setRecord k (some { p with slots := p.slots.set m (some (.expired (some q))) })
              (modStation m (fun y => { y with expired := t }) s)))) ∧
      (p.slots[m] = some .waiting →
        exec (.deadlineExpiry m) before = .next (classify k
          (setRecord k (some { p with slots := p.slots.set m (some (.expired none)) }) s)))) ∧
    (s.trk.st ≠ .tracking ∨ s.stations[m].role = .none ∨
        s.geo.pn ≤ s.stations[m].offset + s.stations[m].deadline ∨
        (∀ p, s.ring[k] = some p → p.st = .await → ∀ x, p.slots[m] = some x → isResolved x = true) →
      exec (.deadlineExpiry m) before = .next s)

/-- A fire is taken at a lane's fire phase for a record at its offset, ROUTED with that lane as target, while the mask is LIVE
and the lane OPEN or HELD. With confirmation off the record is delivered and freed; with it on the record goes to FIRED and
joins the lane's confirm queue. The output opens a run or merges into the one in progress, with the close point of R145; the
close of a run opened inside the span of a forward re-alignment that holds its close point moves to the first advance after the
span. A fire at or before the close point of the run in progress merges by R146; that one beyond it merges too, where no
run from reset leads, is the model's choice (log 21). A fire that is not due or not taken changes nothing
(R34, R35, R142, R143, R144, R145, R146, R149, R154, R155). -/
def Obligations.FireTaken : Prop :=
  ∀ (e : Option Travel) (l : LaneNo) (s : State) (L : Lane) (k : PocketNo) (f : Travel), s.lanes[l] = L →
    k = pocketAt s L.setup.offset → f = s.trk.travel →
    (∀ p v c, phase s = L.setup.firePhase → L.setup.offset < s.geo.pn → s.ring[k] = some p → p.st = .routed v c →
      c.lane = l → s.mask.masked = false → L.attr ≠ .disabled →
      ∃ out t,
        (L.setup.confirm = false →
          t = deliver l k p s ∧ firePhase e l s = modLane l (fun M => { M with output := out }) t) ∧
        (L.setup.confirm = true →
          t = setRecord k (some { p with st := .fired v c }) s ∧
          ∀ x : ConfirmEntry, x.pocket = k → x.fire = f → x.windowEnd = f + BitVec.ofNat 32 L.setup.window →
            firePhase e l s = modLane l (fun M => { M with output := out, queue := L.queue ++ [x] }) t) ∧
        (∀ rest, L.output = .inactive rest → ∃ run n, out = .active run ∧ run.first = f ∧ run.last = f ∧ run.fires = 1 ∧
          (run.rested = true ↔ rest = .rested ∨
            ∃ mark, rest = .since mark ∧ L.setup.restDist ≤ (f - mark).toNat) ∧
          n = max (L.setup.width + if run.rested then L.setup.firstShot else 0) (max L.setup.width 1) ∧
          run.closePoint = f + BitVec.ofNat 32 n ∧ run.closeAt = pointAfter e f n) ∧
        ∀ old, L.output = .active old → ∃ run, out = .active run ∧ run.first = old.first ∧ run.last = f ∧
          run.fires = old.fires + 1 ∧ run.rested = old.rested ∧
          (1 ≤ old.fires → ∀ d, d = (f - old.first).toNat →
            run.closePoint = old.first + BitVec.ofNat 32
              (max (L.setup.width + if old.rested then L.setup.firstShot else 0)
                (max (d + L.setup.width - L.setup.tailTrim) (d + 1)))) ∧
          run.closeAt = run.closePoint) ∧
    (phase s ≠ L.setup.firePhase ∨ s.geo.pn ≤ L.setup.offset ∨ s.mask.masked = true ∨ L.attr = .disabled ∨
        (∀ p v c, s.ring[k] = some p → p.st = .routed v c → c.lane ≠ l) →
      firePhase e l s = s)

/-- The deliveries and the departures. A delivery moves one from the lane's reserved to its delivered count, counts DELIVERED
and the lane's own count, hands the record's report with its readings and frees it. At the dump a record departs DUMPED where
it stranded NOROUTE and UNSORTED otherwise; an AWAIT record lowers its bank's in-use count, a ROUTED or FIRED one is stranded
first and its reservation released, a FIRED one counted EJECT-MISS; then its report is handed. That a FIRED record's
EJECT-MISS, with its notice, and the release come before its report is the model's deduction (log 19). A lane's pass check
strands the record still ROUTED to it one offset beyond it and releases its reservation; it changes nothing where no such
record stands there
(R34, R38, R40, R41, R42, R43, R44, R45, R128, R205). -/
def Obligations.RecordsLeaveTheRing : Prop :=
  ∀ (k : PocketNo) (p : Part) (s : State),
    (∀ l : LaneNo, ∃ t,
      t = tallyCount (tallyLane l) (tallyCount tallyDelivered (modLane l (fun L =>
        { L with reserved := L.reserved - 1, delivered := oneMore L.delivered }) s)) ∧
      deliver l k p s = setRecord k none (handReport (reportAs s .delivered k p false) t)) ∧
    (s.ring[pocketAt s s.geo.dumpOffset] = some p → k = pocketAt s s.geo.dumpOffset →
      ∃ t q o, departure s = setRecord k none (handReport (reportAs s o k q false)
          (tallyCount (if o = OutcomeKind.dumped then tallyDumped else tallyUnsorted) t)) ∧
        (p.st = .await → o = .unsorted ∧ q = p ∧ t = modBank p.bank (fun b => { b with inUse := b.inUse - 1 }) s) ∧
        (∀ v c, p.st = .routed v c → o = .unsorted ∧
          q = { p with st := .stranded v (some c) (reasonUnfired s.lanes[c.lane]) } ∧
          t = modLane c.lane (fun L => { L with reserved := L.reserved - 1 }) s) ∧
        (∀ v c, p.st = .fired v c → o = .unsorted ∧ q = { p with st := .stranded v (some c) .miss } ∧
          ∃ u, u = modLane c.lane (fun L => { L with queue := L.queue.eraseP fun e => e.pocket == k }) s ∧
          t = modLane c.lane (fun L => { L with reserved := L.reserved - 1 }) (raise .ejectMiss
            (u.setCounters { s.counters with ejectMiss := oneMore s.counters.ejectMiss }))) ∧
        ∀ v c why, p.st = .stranded v c why →
          q = p ∧ t = s ∧ o = if why = .noRoute then .dumped else .unsorted) ∧
    (s.ring[pocketAt s s.geo.dumpOffset] = none → departure s = s) ∧
    (∀ (l : LaneNo) (v : Verdict) (c : Target), s.lanes[l].setup.offset + 1 < s.geo.pn →
      k = pocketAt s (s.lanes[l].setup.offset + 1) → s.ring[k] = some p → p.st = .routed v c → c.lane = l →
      passCheck l s = modLane l (fun L => { L with reserved := L.reserved - 1 })
        (setRecord k (some { p with st := .stranded v (some c) (reasonUnfired s.lanes[l]) }) s)) ∧
    ∀ l : LaneNo, s.geo.pn ≤ s.lanes[l].setup.offset + 1 ∨
        (∀ q v c, s.ring[pocketAt s (s.lanes[l].setup.offset + 1)] = some q → q.st = .routed v c → c.lane ≠ l) →
      passCheck l s = s

/-- TRIGGER_END, RUN_CLOSE and REST_POINT act exactly where travel has reached their point, in TRACKING: the MTRIG line goes
inactive; the run is discarded and the lane rests from here, at once with a rest distance of 0; the lane is marked rested
(R57, R148, R149). Elsewhere they change nothing, the model's choice (log 4). What is still due when another command begins is
taken as by running the points' commands in one order, then the missing index, each step with the notice that has a place
admitted: the model's choice (logs 4, 17); with nothing due that leaves the state alone. The positions of a forward
re-alignment take the same points of travel without the deadlines and the missing index (R18; log 14). -/
def Obligations.TravelPointsTaken : Prop :=
  ∀ s : State,
    (∀ m : StationNo,
      (s.trk.st = .tracking → s.stations[m].pulseEnd = some s.trk.travel →
        exec (.triggerEnd m) s = .next (modStation m (fun x => { x with pulseEnd := none }) s)) ∧
      (s.trk.st ≠ .tracking ∨ s.stations[m].pulseEnd ≠ some s.trk.travel → exec (.triggerEnd m) s = .next s)) ∧
    (∀ l : LaneNo,
      (∀ run, s.lanes[l].output = .active run →
        (s.trk.st = .tracking → run.closeAt = s.trk.travel →
          exec (.runClose l) s = .next (modLane l (fun L =>
            { L with output := if L.setup.restDist = 0 then .inactive .rested else .inactive (.since s.trk.travel) }) s)) ∧
        (s.trk.st ≠ .tracking ∨ run.closeAt ≠ s.trk.travel → exec (.runClose l) s = .next s)) ∧
      (isActive s.lanes[l] = false → exec (.runClose l) s = .next s) ∧
      (∀ mark, s.lanes[l].output = .inactive (.since mark) →
        (s.trk.st = .tracking → s.trk.travel = mark + BitVec.ofNat 32 s.lanes[l].setup.restDist →
          exec (.restPoint l) s = .next (modLane l (fun L => { L with output := .inactive .rested }) s)) ∧
        (s.trk.st ≠ .tracking ∨ s.trk.travel ≠ mark + BitVec.ofNat 32 s.lanes[l].setup.restDist →
          exec (.restPoint l) s = .next s)) ∧
      ((∀ mark, s.lanes[l].output ≠ .inactive (.since mark)) → exec (.restPoint l) s = .next s)) ∧
    (∀ u, u = runAll pointCommands s →
      (u.trk.st = .tracking → u.trk.travel = u.trk.indexRef + BitVec.ofNat 32 (u.geo.c + u.geo.ti + 1) →
        settled s = opened (slip (loadPocket u) (opened u))) ∧
      (u.trk.st ≠ .tracking ∨ u.trk.travel ≠ u.trk.indexRef + BitVec.ofNat 32 (u.geo.c + u.geo.ti + 1) →
        settled s = opened u)) ∧
    (nothingDue s = true → opened s = s → settled s = s) ∧
    takeTravelPoints s = (List.finRange 16).foldl (fun u l => takeRestPoint l (takeWindowEnd l (takeClose l u)))
      ((List.finRange 4).foldl (fun u m => takeTriggerEnd m u) s) ∧
    (∀ m, exec (.triggerEnd m) s = .next (takeTriggerEnd m s) ∧
      exec (.deadlineExpiry m) s = .next (takeDeadline m (opened s))) ∧
    ∀ l, exec (.runClose l) s = .next (takeClose l s) ∧ exec (.restPoint l) s = .next (takeRestPoint l s) ∧
      exec (.windowEnd l) s = .next (takeWindowEnd l (opened s))

/-- DROP confirms the oldest entry of the lane's queue, whose FIRED record is delivered; with an empty queue it is stray,
counted and flagged. WINDOW_END, where travel has reached the oldest entry's window end in TRACKING, makes it a miss: the
entry leaves, EJECT-MISS is counted and flagged, and the record strands MISS with its reservation released. Elsewhere it
changes nothing, the model's choice (log 4). A notice with a place handed to it is admitted first (log 17)
(R36, R37, R156, R157, R158). -/
def Obligations.DropsAndWindowEnds : Prop :=
  ∀ (l : LaneNo) (before s : State),
    (s = settled before →
      (s.lanes[l].queue = [] → exec (.drop l) before =
        .next (raise .stray (s.setCounters { s.counters with stray := oneMore s.counters.stray }))) ∧
      ∀ e rest p v c, s.lanes[l].queue = e :: rest → s.ring[e.pocket] = some p → p.st = .fired v c → c.lane = l →
        exec (.drop l) before = .next (deliver l e.pocket p (modLane l (fun L => { L with queue := rest }) s))) ∧
    (s = opened before →
      (s.lanes[l].queue = [] → exec (.windowEnd l) before = .next s) ∧
      ∀ e rest p v c, s.lanes[l].queue = e :: rest → s.ring[e.pocket] = some p → p.st = .fired v c → c.lane = l →
        (s.trk.st = .tracking → e.windowEnd = s.trk.travel →
          ∃ t u, t = modLane l (fun L => { L with queue := rest }) s ∧
            u = raise .ejectMiss (t.setCounters { s.counters with ejectMiss := oneMore s.counters.ejectMiss }) ∧
            exec (.windowEnd l) before = .next (modLane l (fun L => { L with reserved := L.reserved - 1 })
              (setRecord e.pocket (some { p with st := .stranded v (some c) .miss }) u))) ∧
        (s.trk.st ≠ .tracking ∨ e.windowEnd ≠ s.trk.travel → exec (.windowEnd l) before = .next s))

/-- The JET, MTRIG, LOADEN and RFS lines as functions of the state, which stores none of them (log 23); and RDAT: while a
frame is sent, bit n of the frame once n bits have been sent, each word most significant bit first (R49, R57, R140, R201, R219;
the count of bits sent is the model's choice, log 11). -/
def Obligations.OutputLinesDriven : Prop :=
  ∀ s : State,
    (∀ l : LaneNo,
      (s.trk.st ≠ .tracking → jetLine s l = s.lanes[l].setup.activeLow) ∧
      (s.trk.st = .tracking → s.mask.masked = true →
        (s.lanes[l].setup.safeLow = true → jetLine s l = false) ∧
        (s.lanes[l].setup.safeLow = false → s.lanes[l].setup.safeHigh = true → jetLine s l = true) ∧
        (s.lanes[l].setup.safeLow = false → s.lanes[l].setup.safeHigh = false →
          jetLine s l = s.lanes[l].setup.activeLow)) ∧
      (s.trk.st = .tracking → s.mask.masked = false →
        jetLine s l = if isActive s.lanes[l] then !s.lanes[l].setup.activeLow else s.lanes[l].setup.activeLow)) ∧
    (∀ m : StationNo, trigLine s m = true ↔ ∃ e, s.stations[m].pulseEnd = some e) ∧
    (loaden s = true ↔ s.trk.st = .tracking ∧ s.mask.masked = false ∧ s.loadPause = false) ∧
    (rfsLine s = true ↔ s.tx.sending = true) ∧
    ∀ f rest n, s.report.queue = f :: rest → s.tx.sending = true → n = 16 * s.tx.sent + s.tx.bits →
      n < 16 * (outWords f).length →
      rdatLine s = some (((outWords f).getD (n / 16) 0).getLsbD (15 - n % 16))

/-! ## The links -/

/-- The receiver. FRAME_START in WAITING begins a frame with everything at 0; a rising MCLK edge shifts a bit into the word in
RECEIVING, most significant first, and the sixteenth completes the word, which joins the sum and the words; elsewhere the
bit is ignored. MFS_DEASSERT in RECEIVING is a RUNT, and otherwise only returns to WAITING (R178, R180). Before an MCLK edge or
a deassertion, HEADER_RECEIVED and then FRAME_COMPLETE are run for what the bits sampled so far have completed: the model's
choice (log 4), as are the zeros of a receiver in WAITING (log 3). A notice with a place handed to it is admitted first
(log 17). -/
def Obligations.ReceiverAssembles : Prop :=
  ∀ s : State,
    (s.rx.st = .waiting → s.pins.mfs = false → exec .frameStart s =
      .next ((s.setPins { s.pins with mfs := true }).setRx
        { st := .receiving, wordCount := 0, bitCount := 0, sum := 0, shift := 0, declared := none, words := [] })) ∧
    (s.rx.st ≠ .waiting ∨ s.pins.mfs = true → exec .frameStart s = .next (s.setPins { s.pins with mfs := true })) ∧
    ∃ t u v : State, exec .headerReceived s = .next t ∧ exec .frameComplete t = .next u ∧ v = opened u ∧
      (v.rx.st ≠ .receiving → ∀ d, exec (.mclkRisingEdge d) s = .next v) ∧
      (v.rx.st = .receiving → ∀ (d : Bool) (w : Word16),
        (∀ i : Fin 16, w.getLsbD i = if i.val = 0 then d else v.rx.shift.getLsbD (i - 1)) →
        (v.rx.bitCount ≠ 15 → exec (.mclkRisingEdge d) s =
          .next (v.setRx { v.rx with bitCount := v.rx.bitCount + 1, shift := w })) ∧
        (v.rx.bitCount = 15 → exec (.mclkRisingEdge d) s = .next (v.setRx
          { v.rx with bitCount := 0, shift := 0, sum := v.rx.sum + w, wordCount := v.rx.wordCount + 1,
                      words := v.rx.words ++ [w] }))) ∧
      (v.rx.st ≠ .receiving → exec .mfsDeassert s =
        .next ((v.setPins { v.pins with mfs := false }).setRx (Receiver.reset false))) ∧
      (v.rx.st = .receiving → exec .mfsDeassert s =
        .next (raise .runt (((v.setPins { v.pins with mfs := false }).setRx (Receiver.reset false)).setCounters
          { v.counters with runt := oneMore v.counters.runt })))

/-- HEADER_RECEIVED with the header word complete keeps a declared length of 2 to 16 and makes any other a RUNT in TRAILING.
FRAME_COMPLETE with the last declared word complete enters TRAILING; a sum of 0 brings the frame to the inbound queue, or
makes it an OVERRUN where the queue holds 8, and another sum a BADSUM. Each changes nothing where it is not due, the model's
choice (log 4). A notice with a place handed to it is admitted first (log 17) (R179, R181, R182). -/
def Obligations.FramesExamined : Prop :=
  ∀ before s : State, s = opened before →
    (s.rx.st = .receiving → s.rx.wordCount = 1 → s.rx.bitCount = 0 → s.rx.declared = none →
      ∀ n, n = (loByte (word s.rx.words 0)).toNat →
        (2 ≤ n → n ≤ 16 → exec .headerReceived before = .next (s.setRx { s.rx with declared := some n })) ∧
        (n < 2 ∨ 16 < n → exec .headerReceived before = .next (raise .runt ((s.setRx
          { s.rx with st := .trailing }).setCounters { s.counters with runt := oneMore s.counters.runt })))) ∧
    (s.rx.st ≠ .receiving ∨ s.rx.wordCount ≠ 1 ∨ s.rx.bitCount ≠ 0 ∨ s.rx.declared ≠ none →
      exec .headerReceived before = .next s) ∧
    (s.rx.st = .receiving → s.rx.bitCount = 0 → s.rx.declared = some s.rx.wordCount →
      ∀ t, t = s.setRx { s.rx with st := .trailing } →
        (s.rx.sum = 0 → s.inbound.length < 8 →
          exec .frameComplete before = .next (t.setInbound (s.inbound ++ [s.rx.words]))) ∧
        (s.rx.sum = 0 → 8 ≤ s.inbound.length → exec .frameComplete before =
          .next (raise .overrun (t.setCounters { s.counters with overrun := oneMore s.counters.overrun }))) ∧
        (s.rx.sum ≠ 0 → exec .frameComplete before =
          .next (raise .badSum (t.setCounters { s.counters with badSum := oneMore s.counters.badSum })))) ∧
    (s.rx.st ≠ .receiving ∨ s.rx.bitCount ≠ 0 ∨ s.rx.declared ≠ some s.rx.wordCount →
      exec .frameComplete before = .next s)

/-- The transmitter. TRANSMIT_START with RHOLD low starts the head frame where one waits and none is sent; with RHOLD high, like
RHOLD_ASSERT, it abandons the frame in progress, which stays queued. TRANSMIT_COMPLETE, at any count of bits sent (the model's
choice, log 11), removes the head and hands its place to the waiter that began waiting first, or leaves it free. The notice
that has a place is admitted by PENDING_NOTICE_ADMIT, or at the beginning of the next event, before which nothing changes a
flag; and there the processor is marked stalled where the head frame waits at a fill of 32: the model's form of R186, R200
and R213 (log 17). Each changes nothing else where it is not due, the model's choice (log 4) (R200, R201, R202, R203, R213). -/
def Obligations.TransmitterActs : Prop :=
  ∀ before s : State, s = opened before →
    (before.report.noticePlace = true → ∃ stall, s =
      (before.setReport { before.report with queue := before.report.queue ++ [.event before.events.flags],
                                             noticePlace := false, stalled := stall }).setEvents
        { before.events with noticePending := false }) ∧
    (before.report.noticePlace = false → ∃ stall, s = before.setReport { before.report with stalled := stall }) ∧
    (s.report.stalled = true ↔
      32 ≤ fill s ∧ s.report.replyPlace = false ∧ ∃ g, s.inbound.head? = some g ∧ waitsForPlace g = true) ∧
    (∀ t, t = s.setPins { s.pins with rhold := false } →
      (s.tx.sending = false → s.report.queue ≠ [] →
        exec (.transmitStart false) before = .next (t.setTx { sending := true, sent := 0, bits := 0 })) ∧
      (s.tx.sending = true ∨ s.report.queue = [] → exec (.transmitStart false) before = .next t)) ∧
    (∀ t, t = s.setPins { s.pins with rhold := true } →
      (s.tx.sending = true →
        exec (.transmitStart true) before = .next (t.setTx { sending := false, sent := 0, bits := 0 })) ∧
      (s.tx.sending = false → exec (.transmitStart true) before = .next t)) ∧
    (∀ t, t = before.setPins { before.pins with rhold := true } →
      (before.tx.sending = true →
        exec .rholdAssert before = .next (t.setTx { sending := false, sent := 0, bits := 0 })) ∧
      (before.tx.sending = false → exec .rholdAssert before = .next t)) ∧
    (s.tx.sending = false → exec .transmitComplete before = .next s) ∧
    (s.tx.sending = true → s.report.queue = [] →
      exec .transmitComplete before = .next (s.setTx { sending := false, sent := 0, bits := 0 })) ∧
    (∀ f rest t, s.tx.sending = true → s.report.queue = f :: rest →
      t = (s.setTx { sending := false, sent := 0, bits := 0 }).setReport { s.report with queue := rest } →
      (s.events.noticePending = true → (s.events.noticeFirst = true ∨ s.report.stalled = false) →
        exec .transmitComplete before = .next (t.setReport { t.report with noticePlace := true })) ∧
      (s.report.stalled = true → (s.events.noticePending = false ∨ s.events.noticeFirst = false) →
        exec .transmitComplete before = .next (t.setReport { t.report with replyPlace := true })) ∧
      (s.report.stalled = false → s.events.noticePending = false → exec .transmitComplete before = .next t)) ∧
    (before.report.noticePlace = true → exec .pendingNoticeAdmit before =
      .next ((before.setReport { before.report with queue := before.report.queue ++ [.event before.events.flags],
                                                    noticePlace := false }).setEvents
        { before.events with noticePending := false })) ∧
    (before.report.noticePlace = false → exec .pendingNoticeAdmit before = .next before)

/-- A flag handed while clear becomes set, and with its enable set sends one notice: admitted with the flags as they stand at
a fill below 32, and pending at 32; a notice that becomes pending began waiting before the head frame unless the processor was
stalled at that frame when the event began (the model's form of R200, log 17). Handed while set it changes nothing. A PART
report is admitted while the fill is below 28, and otherwise dropped, counted and flagged (R198, R199, R200, R212, R213). -/
def Obligations.FlagsAndReportsAdmitted : Prop :=
  ∀ s : State,
    (∀ fl : Flag, (s.events.flags.getLsbD (flagBit fl) = true → raise fl s = s) ∧
      (s.events.flags.getLsbD (flagBit fl) = false → ∀ now, now = s.events.flags ||| BitVec.ofNat 14 (2 ^ flagBit fl) →
        (s.events.enables.getLsbD (flagBit fl) = false → raise fl s = s.setEvents { s.events with flags := now }) ∧
        (s.events.enables.getLsbD (flagBit fl) = true →
          (fill s < 32 → raise fl s = (s.setEvents { s.events with flags := now }).setReport
            { s.report with queue := s.report.queue ++ [.event now] }) ∧
          (32 ≤ fill s → s.events.noticePending = true → raise fl s = s.setEvents { s.events with flags := now }) ∧
          (32 ≤ fill s → s.events.noticePending = false → raise fl s =
            s.setEvents { s.events with flags := now, noticePending := true, noticeFirst := !s.report.stalled })))) ∧
    ∀ r : PartReport,
      (fill s < 28 → handReport r s = s.setReport { s.report with queue := s.report.queue ++ [.part r] }) ∧
      (28 ≤ fill s → handReport r s =
        raise .reportDrop (s.setCounters { s.counters with reportDrop := oneMore s.counters.reportDrop }))

/-- Outbound frames: the words of each sum to 0 modulo 65,536, the header carries the kind code and the frame's own length, a
REPLY with up to 12 data words has 4 to 16 words, its tag, kind, status, detail and data in their places, and an EVENT 3; a
PART frame has 11 words in format 1 and 17 or 21 in format 2 with one or two readings, with the fields of its record and its
reading groups in their encodings (R205, R219, R221, R224, R226). -/
def Obligations.OutboundFramesWellFormed : Prop :=
  (∀ o : OutFrame, wordSum (outWords o) = 0) ∧
  (∀ flags, (outWords (.event flags)).length = 3 ∧ frameCode (outWords (.event flags)) = 0x43 ∧
    declaredLength (outWords (.event flags)) = 3 ∧ word (outWords (.event flags)) 1 = flags.setWidth 16) ∧
  (∀ tag kind a, a.data.length ≤ 12 →
    (outWords (.reply tag kind a)).length = 4 + a.data.length ∧ frameCode (outWords (.reply tag kind a)) = 0x42 ∧
    declaredLength (outWords (.reply tag kind a)) = 4 + a.data.length ∧
    word (outWords (.reply tag kind a)) 1 = bytes tag.toNat kind.toNat ∧
    word (outWords (.reply tag kind a)) 2 = bytes (statusNumber a.status) a.detail.toNat ∧
    ∃ check, (outWords (.reply tag kind a)).drop 3 = a.data ++ [check]) ∧
  ∀ (r : PartReport) (x : Standing), x = standing r.part.st → frameCode (outWords (.part r)) = 0x41 ∧
    word (outWords (.part r)) 1 =
      bytes (match r.outcome with | .delivered => 0 | .dumped => 1 | .unsorted => 2) r.pocket.val ∧
    dword (outWords (.part r)) 2 = r.part.serial ∧ word (outWords (.part r)) 4 = r.part.generation ∧
    dword (outWords (.part r)) 5 = r.part.lot ∧ word (outWords (.part r)) 7 = classCodes x.verdict ∧
    word (outWords (.part r)) 8 = targetCodes x.target ∧
    word (outWords (.part r)) 9 = bytes (reasonCode x.reason)
      (deviationFlags x.verdict + 4 * r.purged.toNat + 128 * r.formatTwo.toNat) ∧
    (r.formatTwo = false → (outWords (.part r)).length = 11 ∧ declaredLength (outWords (.part r)) = 11) ∧
    (r.formatTwo = true →
      (∃ check, (outWords (.part r)).drop 10 =
        deviationCodes x.verdict ++ r.readings.flatMap (fun g => groupCodes g.1 g.2) ++ [check]) ∧
      (r.readings.length ≤ 2 →
        (outWords (.part r)).length = 13 + 4 * r.readings.length ∧
        declaredLength (outWords (.part r)) = 13 + 4 * r.readings.length))

/-! ## What every command keeps -/

/-- The inbound queue stays within 8 frames and the report queue's fill within 32 (R182, R198). -/
def Obligations.QueuesStayBounded : Prop :=
  ∀ s t : State, QueuesBounded s → step s = .next t → QueuesBounded t

/-- Every frame that reaches the inbound queue has a declared length of 2 to 16, that many words, and the sum 0; the receiver's
count, sum and declared length go on describing the words it has assembled (R178, R179, R181, R182). -/
def Obligations.InboundFramesStayWellFormed : Prop :=
  ∀ s t : State, InboundWellFormed s → ReceiverConsistent s → step s = .next t →
    InboundWellFormed t ∧ ReceiverConsistent t

/-- The reason set stays empty exactly while the mask is LIVE, the clean count 0 while LIVE, and both counts in range; and no
run is in progress while MASKED or outside TRACKING (R140, R152, R163, R171). -/
def Obligations.MaskStaysConsistent : Prop :=
  ∀ s t : State, MaskConsistent s → RunsOnlyWhileLive s → step s = .next t → MaskConsistent t ∧ RunsOnlyWhileLive t

/-- The geometry stays in its ranges, pos in 0 … C−1 and the lag in 0 … C−1 while TRACKING; records are live in TRACKING only,
and the records beyond the turret's pockets stay FREE (R2, R3, R5, R26). -/
def Obligations.PositionAndRecordsStayInRange : Prop :=
  ∀ s t : State, PositionInRange s → RecordsInPlace s → step s = .next t → PositionInRange t ∧ RecordsInPlace t

/-- Outside IDLE every relation of R188 goes on holding, whatever LANE-STATE and BANK-SWAP frames are executed
(R133, R188). -/
def Obligations.RelationsGoOnHolding : Prop :=
  ∀ s t : State, RunsWithinRelations s → step s = .next t → RunsWithinRelations t

/-- Each bank's in-use count stays the number of AWAIT records bound to it, each lane's reserved count the number of ROUTED and
FIRED records with it as target, and no lane's counts exceed a capacity above 0 (R102, R121, R127). -/
def Obligations.CountsMatchRecords : Prop :=
  ∀ s t : State, InUseMatches s → ReservedMatches s → LanesFit s → step s = .next t →
    InUseMatches t ∧ ReservedMatches t ∧ LanesFit t

/-- While no tally count stands at its largest value, LOADED equals DELIVERED plus DUMPED plus UNSORTED plus the number of
records not FREE, and the sixteen lane counts sum to DELIVERED (R209, R211). -/
def Obligations.TallyStaysBalanced : Prop :=
  ∀ s t : State, TallyBalances s → step s = .next t → TallyBalances t

/-- Each lane's confirm queue goes on holding exactly the FIRED records with that lane as target, each once (R154, R160). -/
def Obligations.ConfirmQueuesStayMatched : Prop :=
  ∀ s t : State, ConfirmQueuesMatch s → step s = .next t → ConfirmQueuesMatch t

/-- But for FULL_RESET, no command changes the table contents of a bank that is LIVE, or that has records bound to it once what
fell due at the last advance has been taken (log 4); and the generation counter stays the LIVE bank's generation
(R96, R105, R110). -/
def Obligations.TablesInUseKept : Prop :=
  ∀ (c : Instr) (s t : State), exec c s = .next t →
    (GenerationMatches s → GenerationMatches t) ∧
    ((∀ a b m, c ≠ .fullReset a b m) → ∀ id, (id = s.banks.live ∨ 0 < (bankAt (settled s).banks id).inUse) →
      (bankAt t.banks id).table = (bankAt s.banks id).table)

/-- But for FULL_RESET: the lock once set stays set, and while it is set no command changes the banks' tables, roles or
generations, the geometry, the stations' or lanes' setup, or the PART format; outside IDLE no command changes the geometry
or the stations' or lanes' setup (R4, R53, R111, R112, R130). -/
def Obligations.SettingsKept : Prop :=
  ∀ (c : Instr) (s t : State), (∀ a b m, c ≠ .fullReset a b m) → exec c s = .next t →
    (s.banks.lock = true → t.banks.lock = true ∧ t.banks.live = s.banks.live ∧
      t.banks.generation = s.banks.generation ∧
      (∀ id, (bankAt t.banks id).table = (bankAt s.banks id).table ∧
        (bankAt t.banks id).generation = (bankAt s.banks id).generation) ∧
      t.report.formatTwo = s.report.formatTwo ∧ t.report.formatMark = s.report.formatMark) ∧
    (s.banks.lock = true ∨ s.trk.st ≠ .idle → t.geo = s.geo ∧
      (∀ m : StationNo, t.stations[m] = { s.stations[m] with
        seq := t.stations[m].seq, temp := t.stations[m].temp, expired := t.stations[m].expired,
        pulseEnd := t.stations[m].pulseEnd }) ∧
      ∀ l : LaneNo, t.lanes[l].setup = s.lanes[l].setup)

/-- A verdict once written stays unchanged until its record is freed: a pocket that holds a record with a verdict before a
command holds none or that verdict after it. For the two motion commands this is said with loading paused, or with the
position, records and relations of a run, in which no command frees a record and loads its pocket anew (R90). -/
def Obligations.VerdictKept : Prop :=
  ∀ (c : Instr) (s t : State) (k : PocketNo) (p q : Part) (v : Verdict), exec c s = .next t →
    ((∃ a b x, c = .encoderCount a b x) ∨ (∃ x, c = .indexEvent x) →
      s.loadPause = true ∨ (RunsWithinRelations s ∧ PositionInRange s ∧ RecordsInPlace s)) →
    s.ring[k] = some p → verdictOf p = some v → t.ring[k] = some q → verdictOf q = some v

/-- State.reset meets every invariant above. -/
def Obligations.ResetMeetsInvariants : Prop :=
  QueuesBounded State.reset ∧ InboundWellFormed State.reset ∧ ReceiverConsistent State.reset ∧
    MaskConsistent State.reset ∧ RunsOnlyWhileLive State.reset ∧ PositionInRange State.reset ∧
    RecordsInPlace State.reset ∧ RunsWithinRelations State.reset ∧ InUseMatches State.reset ∧
    ReservedMatches State.reset ∧ LanesFit State.reset ∧ TallyBalances State.reset ∧ ConfirmQueuesMatch State.reset ∧
    GenerationMatches State.reset
end

