-- ==== Sys2Proof/Laws/State.lean ====
section
/-!
SUPPORT. What each replacement of a field of State does to each field, one lemma per field per update, true by rfl.
-/

namespace Sys2Proof.Machine

section setGeo
variable (s : State) (v : Geometry)

@[simp] theorem State.setGeo_geo : (s.setGeo v).geo = v := rfl
@[simp] theorem State.setGeo_trk : (s.setGeo v).trk = s.trk := rfl
@[simp] theorem State.setGeo_ring : (s.setGeo v).ring = s.ring := rfl
@[simp] theorem State.setGeo_serial : (s.setGeo v).serial = s.serial := rfl
@[simp] theorem State.setGeo_loadPause : (s.setGeo v).loadPause = s.loadPause := rfl
@[simp] theorem State.setGeo_stations : (s.setGeo v).stations = s.stations := rfl
@[simp] theorem State.setGeo_banks : (s.setGeo v).banks = s.banks := rfl
@[simp] theorem State.setGeo_lanes : (s.setGeo v).lanes = s.lanes := rfl
@[simp] theorem State.setGeo_overflow : (s.setGeo v).overflow = s.overflow := rfl
@[simp] theorem State.setGeo_mask : (s.setGeo v).mask = s.mask := rfl
@[simp] theorem State.setGeo_rx : (s.setGeo v).rx = s.rx := rfl
@[simp] theorem State.setGeo_inbound : (s.setGeo v).inbound = s.inbound := rfl
@[simp] theorem State.setGeo_tx : (s.setGeo v).tx = s.tx := rfl
@[simp] theorem State.setGeo_report : (s.setGeo v).report = s.report := rfl
@[simp] theorem State.setGeo_tally : (s.setGeo v).tally = s.tally := rfl
@[simp] theorem State.setGeo_events : (s.setGeo v).events = s.events := rfl
@[simp] theorem State.setGeo_counters : (s.setGeo v).counters = s.counters := rfl
@[simp] theorem State.setGeo_pins : (s.setGeo v).pins = s.pins := rfl
@[simp] theorem State.setGeo_choice : (s.setGeo v).choice = s.choice := rfl
@[simp] theorem State.setGeo_pending : (s.setGeo v).pending = s.pending := rfl
@[simp] theorem State.setGeo_setGeo (w : Geometry) : (s.setGeo v).setGeo w = s.setGeo w := rfl
@[simp] theorem State.setGeo_self : s.setGeo s.geo = s := rfl

end setGeo

section setTrk
variable (s : State) (v : Tracker)

@[simp] theorem State.setTrk_geo : (s.setTrk v).geo = s.geo := rfl
@[simp] theorem State.setTrk_trk : (s.setTrk v).trk = v := rfl
@[simp] theorem State.setTrk_ring : (s.setTrk v).ring = s.ring := rfl
@[simp] theorem State.setTrk_serial : (s.setTrk v).serial = s.serial := rfl
@[simp] theorem State.setTrk_loadPause : (s.setTrk v).loadPause = s.loadPause := rfl
@[simp] theorem State.setTrk_stations : (s.setTrk v).stations = s.stations := rfl
@[simp] theorem State.setTrk_banks : (s.setTrk v).banks = s.banks := rfl
@[simp] theorem State.setTrk_lanes : (s.setTrk v).lanes = s.lanes := rfl
@[simp] theorem State.setTrk_overflow : (s.setTrk v).overflow = s.overflow := rfl
@[simp] theorem State.setTrk_mask : (s.setTrk v).mask = s.mask := rfl
@[simp] theorem State.setTrk_rx : (s.setTrk v).rx = s.rx := rfl
@[simp] theorem State.setTrk_inbound : (s.setTrk v).inbound = s.inbound := rfl
@[simp] theorem State.setTrk_tx : (s.setTrk v).tx = s.tx := rfl
@[simp] theorem State.setTrk_report : (s.setTrk v).report = s.report := rfl
@[simp] theorem State.setTrk_tally : (s.setTrk v).tally = s.tally := rfl
@[simp] theorem State.setTrk_events : (s.setTrk v).events = s.events := rfl
@[simp] theorem State.setTrk_counters : (s.setTrk v).counters = s.counters := rfl
@[simp] theorem State.setTrk_pins : (s.setTrk v).pins = s.pins := rfl
@[simp] theorem State.setTrk_choice : (s.setTrk v).choice = s.choice := rfl
@[simp] theorem State.setTrk_pending : (s.setTrk v).pending = s.pending := rfl
@[simp] theorem State.setTrk_setTrk (w : Tracker) : (s.setTrk v).setTrk w = s.setTrk w := rfl
@[simp] theorem State.setTrk_self : s.setTrk s.trk = s := rfl

end setTrk

section setRing
variable (s : State) (v : Vector (Option Part) 128)

@[simp] theorem State.setRing_geo : (s.setRing v).geo = s.geo := rfl
@[simp] theorem State.setRing_trk : (s.setRing v).trk = s.trk := rfl
@[simp] theorem State.setRing_ring : (s.setRing v).ring = v := rfl
@[simp] theorem State.setRing_serial : (s.setRing v).serial = s.serial := rfl
@[simp] theorem State.setRing_loadPause : (s.setRing v).loadPause = s.loadPause := rfl
@[simp] theorem State.setRing_stations : (s.setRing v).stations = s.stations := rfl
@[simp] theorem State.setRing_banks : (s.setRing v).banks = s.banks := rfl
@[simp] theorem State.setRing_lanes : (s.setRing v).lanes = s.lanes := rfl
@[simp] theorem State.setRing_overflow : (s.setRing v).overflow = s.overflow := rfl
@[simp] theorem State.setRing_mask : (s.setRing v).mask = s.mask := rfl
@[simp] theorem State.setRing_rx : (s.setRing v).rx = s.rx := rfl
@[simp] theorem State.setRing_inbound : (s.setRing v).inbound = s.inbound := rfl
@[simp] theorem State.setRing_tx : (s.setRing v).tx = s.tx := rfl
@[simp] theorem State.setRing_report : (s.setRing v).report = s.report := rfl
@[simp] theorem State.setRing_tally : (s.setRing v).tally = s.tally := rfl
@[simp] theorem State.setRing_events : (s.setRing v).events = s.events := rfl
@[simp] theorem State.setRing_counters : (s.setRing v).counters = s.counters := rfl
@[simp] theorem State.setRing_pins : (s.setRing v).pins = s.pins := rfl
@[simp] theorem State.setRing_choice : (s.setRing v).choice = s.choice := rfl
@[simp] theorem State.setRing_pending : (s.setRing v).pending = s.pending := rfl
@[simp] theorem State.setRing_setRing (w : Vector (Option Part) 128) : (s.setRing v).setRing w = s.setRing w := rfl
@[simp] theorem State.setRing_self : s.setRing s.ring = s := rfl

end setRing

section setSerial
variable (s : State) (v : BitVec 32)

@[simp] theorem State.setSerial_geo : (s.setSerial v).geo = s.geo := rfl
@[simp] theorem State.setSerial_trk : (s.setSerial v).trk = s.trk := rfl
@[simp] theorem State.setSerial_ring : (s.setSerial v).ring = s.ring := rfl
@[simp] theorem State.setSerial_serial : (s.setSerial v).serial = v := rfl
@[simp] theorem State.setSerial_loadPause : (s.setSerial v).loadPause = s.loadPause := rfl
@[simp] theorem State.setSerial_stations : (s.setSerial v).stations = s.stations := rfl
@[simp] theorem State.setSerial_banks : (s.setSerial v).banks = s.banks := rfl
@[simp] theorem State.setSerial_lanes : (s.setSerial v).lanes = s.lanes := rfl
@[simp] theorem State.setSerial_overflow : (s.setSerial v).overflow = s.overflow := rfl
@[simp] theorem State.setSerial_mask : (s.setSerial v).mask = s.mask := rfl
@[simp] theorem State.setSerial_rx : (s.setSerial v).rx = s.rx := rfl
@[simp] theorem State.setSerial_inbound : (s.setSerial v).inbound = s.inbound := rfl
@[simp] theorem State.setSerial_tx : (s.setSerial v).tx = s.tx := rfl
@[simp] theorem State.setSerial_report : (s.setSerial v).report = s.report := rfl
@[simp] theorem State.setSerial_tally : (s.setSerial v).tally = s.tally := rfl
@[simp] theorem State.setSerial_events : (s.setSerial v).events = s.events := rfl
@[simp] theorem State.setSerial_counters : (s.setSerial v).counters = s.counters := rfl
@[simp] theorem State.setSerial_pins : (s.setSerial v).pins = s.pins := rfl
@[simp] theorem State.setSerial_choice : (s.setSerial v).choice = s.choice := rfl
@[simp] theorem State.setSerial_pending : (s.setSerial v).pending = s.pending := rfl
@[simp] theorem State.setSerial_setSerial (w : BitVec 32) : (s.setSerial v).setSerial w = s.setSerial w := rfl
@[simp] theorem State.setSerial_self : s.setSerial s.serial = s := rfl

end setSerial

section setLoadPause
variable (s : State) (v : Bool)

@[simp] theorem State.setLoadPause_geo : (s.setLoadPause v).geo = s.geo := rfl
@[simp] theorem State.setLoadPause_trk : (s.setLoadPause v).trk = s.trk := rfl
@[simp] theorem State.setLoadPause_ring : (s.setLoadPause v).ring = s.ring := rfl
@[simp] theorem State.setLoadPause_serial : (s.setLoadPause v).serial = s.serial := rfl
@[simp] theorem State.setLoadPause_loadPause : (s.setLoadPause v).loadPause = v := rfl
@[simp] theorem State.setLoadPause_stations : (s.setLoadPause v).stations = s.stations := rfl
@[simp] theorem State.setLoadPause_banks : (s.setLoadPause v).banks = s.banks := rfl
@[simp] theorem State.setLoadPause_lanes : (s.setLoadPause v).lanes = s.lanes := rfl
@[simp] theorem State.setLoadPause_overflow : (s.setLoadPause v).overflow = s.overflow := rfl
@[simp] theorem State.setLoadPause_mask : (s.setLoadPause v).mask = s.mask := rfl
@[simp] theorem State.setLoadPause_rx : (s.setLoadPause v).rx = s.rx := rfl
@[simp] theorem State.setLoadPause_inbound : (s.setLoadPause v).inbound = s.inbound := rfl
@[simp] theorem State.setLoadPause_tx : (s.setLoadPause v).tx = s.tx := rfl
@[simp] theorem State.setLoadPause_report : (s.setLoadPause v).report = s.report := rfl
@[simp] theorem State.setLoadPause_tally : (s.setLoadPause v).tally = s.tally := rfl
@[simp] theorem State.setLoadPause_events : (s.setLoadPause v).events = s.events := rfl
@[simp] theorem State.setLoadPause_counters : (s.setLoadPause v).counters = s.counters := rfl
@[simp] theorem State.setLoadPause_pins : (s.setLoadPause v).pins = s.pins := rfl
@[simp] theorem State.setLoadPause_choice : (s.setLoadPause v).choice = s.choice := rfl
@[simp] theorem State.setLoadPause_pending : (s.setLoadPause v).pending = s.pending := rfl
@[simp] theorem State.setLoadPause_setLoadPause (w : Bool) : (s.setLoadPause v).setLoadPause w = s.setLoadPause w := rfl
@[simp] theorem State.setLoadPause_self : s.setLoadPause s.loadPause = s := rfl

end setLoadPause

section setStations
variable (s : State) (v : Vector Station 4)

@[simp] theorem State.setStations_geo : (s.setStations v).geo = s.geo := rfl
@[simp] theorem State.setStations_trk : (s.setStations v).trk = s.trk := rfl
@[simp] theorem State.setStations_ring : (s.setStations v).ring = s.ring := rfl
@[simp] theorem State.setStations_serial : (s.setStations v).serial = s.serial := rfl
@[simp] theorem State.setStations_loadPause : (s.setStations v).loadPause = s.loadPause := rfl
@[simp] theorem State.setStations_stations : (s.setStations v).stations = v := rfl
@[simp] theorem State.setStations_banks : (s.setStations v).banks = s.banks := rfl
@[simp] theorem State.setStations_lanes : (s.setStations v).lanes = s.lanes := rfl
@[simp] theorem State.setStations_overflow : (s.setStations v).overflow = s.overflow := rfl
@[simp] theorem State.setStations_mask : (s.setStations v).mask = s.mask := rfl
@[simp] theorem State.setStations_rx : (s.setStations v).rx = s.rx := rfl
@[simp] theorem State.setStations_inbound : (s.setStations v).inbound = s.inbound := rfl
@[simp] theorem State.setStations_tx : (s.setStations v).tx = s.tx := rfl
@[simp] theorem State.setStations_report : (s.setStations v).report = s.report := rfl
@[simp] theorem State.setStations_tally : (s.setStations v).tally = s.tally := rfl
@[simp] theorem State.setStations_events : (s.setStations v).events = s.events := rfl
@[simp] theorem State.setStations_counters : (s.setStations v).counters = s.counters := rfl
@[simp] theorem State.setStations_pins : (s.setStations v).pins = s.pins := rfl
@[simp] theorem State.setStations_choice : (s.setStations v).choice = s.choice := rfl
@[simp] theorem State.setStations_pending : (s.setStations v).pending = s.pending := rfl
@[simp] theorem State.setStations_setStations (w : Vector Station 4) : (s.setStations v).setStations w = s.setStations w := rfl
@[simp] theorem State.setStations_self : s.setStations s.stations = s := rfl

end setStations

section setBanks
variable (s : State) (v : BankStore)

@[simp] theorem State.setBanks_geo : (s.setBanks v).geo = s.geo := rfl
@[simp] theorem State.setBanks_trk : (s.setBanks v).trk = s.trk := rfl
@[simp] theorem State.setBanks_ring : (s.setBanks v).ring = s.ring := rfl
@[simp] theorem State.setBanks_serial : (s.setBanks v).serial = s.serial := rfl
@[simp] theorem State.setBanks_loadPause : (s.setBanks v).loadPause = s.loadPause := rfl
@[simp] theorem State.setBanks_stations : (s.setBanks v).stations = s.stations := rfl
@[simp] theorem State.setBanks_banks : (s.setBanks v).banks = v := rfl
@[simp] theorem State.setBanks_lanes : (s.setBanks v).lanes = s.lanes := rfl
@[simp] theorem State.setBanks_overflow : (s.setBanks v).overflow = s.overflow := rfl
@[simp] theorem State.setBanks_mask : (s.setBanks v).mask = s.mask := rfl
@[simp] theorem State.setBanks_rx : (s.setBanks v).rx = s.rx := rfl
@[simp] theorem State.setBanks_inbound : (s.setBanks v).inbound = s.inbound := rfl
@[simp] theorem State.setBanks_tx : (s.setBanks v).tx = s.tx := rfl
@[simp] theorem State.setBanks_report : (s.setBanks v).report = s.report := rfl
@[simp] theorem State.setBanks_tally : (s.setBanks v).tally = s.tally := rfl
@[simp] theorem State.setBanks_events : (s.setBanks v).events = s.events := rfl
@[simp] theorem State.setBanks_counters : (s.setBanks v).counters = s.counters := rfl
@[simp] theorem State.setBanks_pins : (s.setBanks v).pins = s.pins := rfl
@[simp] theorem State.setBanks_choice : (s.setBanks v).choice = s.choice := rfl
@[simp] theorem State.setBanks_pending : (s.setBanks v).pending = s.pending := rfl
@[simp] theorem State.setBanks_setBanks (w : BankStore) : (s.setBanks v).setBanks w = s.setBanks w := rfl
@[simp] theorem State.setBanks_self : s.setBanks s.banks = s := rfl

end setBanks

section setLanes
variable (s : State) (v : Vector Lane 16)

@[simp] theorem State.setLanes_geo : (s.setLanes v).geo = s.geo := rfl
@[simp] theorem State.setLanes_trk : (s.setLanes v).trk = s.trk := rfl
@[simp] theorem State.setLanes_ring : (s.setLanes v).ring = s.ring := rfl
@[simp] theorem State.setLanes_serial : (s.setLanes v).serial = s.serial := rfl
@[simp] theorem State.setLanes_loadPause : (s.setLanes v).loadPause = s.loadPause := rfl
@[simp] theorem State.setLanes_stations : (s.setLanes v).stations = s.stations := rfl
@[simp] theorem State.setLanes_banks : (s.setLanes v).banks = s.banks := rfl
@[simp] theorem State.setLanes_lanes : (s.setLanes v).lanes = v := rfl
@[simp] theorem State.setLanes_overflow : (s.setLanes v).overflow = s.overflow := rfl
@[simp] theorem State.setLanes_mask : (s.setLanes v).mask = s.mask := rfl
@[simp] theorem State.setLanes_rx : (s.setLanes v).rx = s.rx := rfl
@[simp] theorem State.setLanes_inbound : (s.setLanes v).inbound = s.inbound := rfl
@[simp] theorem State.setLanes_tx : (s.setLanes v).tx = s.tx := rfl
@[simp] theorem State.setLanes_report : (s.setLanes v).report = s.report := rfl
@[simp] theorem State.setLanes_tally : (s.setLanes v).tally = s.tally := rfl
@[simp] theorem State.setLanes_events : (s.setLanes v).events = s.events := rfl
@[simp] theorem State.setLanes_counters : (s.setLanes v).counters = s.counters := rfl
@[simp] theorem State.setLanes_pins : (s.setLanes v).pins = s.pins := rfl
@[simp] theorem State.setLanes_choice : (s.setLanes v).choice = s.choice := rfl
@[simp] theorem State.setLanes_pending : (s.setLanes v).pending = s.pending := rfl
@[simp] theorem State.setLanes_setLanes (w : Vector Lane 16) : (s.setLanes v).setLanes w = s.setLanes w := rfl
@[simp] theorem State.setLanes_self : s.setLanes s.lanes = s := rfl

end setLanes

section setOverflow
variable (s : State) (v : Route)

@[simp] theorem State.setOverflow_geo : (s.setOverflow v).geo = s.geo := rfl
@[simp] theorem State.setOverflow_trk : (s.setOverflow v).trk = s.trk := rfl
@[simp] theorem State.setOverflow_ring : (s.setOverflow v).ring = s.ring := rfl
@[simp] theorem State.setOverflow_serial : (s.setOverflow v).serial = s.serial := rfl
@[simp] theorem State.setOverflow_loadPause : (s.setOverflow v).loadPause = s.loadPause := rfl
@[simp] theorem State.setOverflow_stations : (s.setOverflow v).stations = s.stations := rfl
@[simp] theorem State.setOverflow_banks : (s.setOverflow v).banks = s.banks := rfl
@[simp] theorem State.setOverflow_lanes : (s.setOverflow v).lanes = s.lanes := rfl
@[simp] theorem State.setOverflow_overflow : (s.setOverflow v).overflow = v := rfl
@[simp] theorem State.setOverflow_mask : (s.setOverflow v).mask = s.mask := rfl
@[simp] theorem State.setOverflow_rx : (s.setOverflow v).rx = s.rx := rfl
@[simp] theorem State.setOverflow_inbound : (s.setOverflow v).inbound = s.inbound := rfl
@[simp] theorem State.setOverflow_tx : (s.setOverflow v).tx = s.tx := rfl
@[simp] theorem State.setOverflow_report : (s.setOverflow v).report = s.report := rfl
@[simp] theorem State.setOverflow_tally : (s.setOverflow v).tally = s.tally := rfl
@[simp] theorem State.setOverflow_events : (s.setOverflow v).events = s.events := rfl
@[simp] theorem State.setOverflow_counters : (s.setOverflow v).counters = s.counters := rfl
@[simp] theorem State.setOverflow_pins : (s.setOverflow v).pins = s.pins := rfl
@[simp] theorem State.setOverflow_choice : (s.setOverflow v).choice = s.choice := rfl
@[simp] theorem State.setOverflow_pending : (s.setOverflow v).pending = s.pending := rfl
@[simp] theorem State.setOverflow_setOverflow (w : Route) : (s.setOverflow v).setOverflow w = s.setOverflow w := rfl
@[simp] theorem State.setOverflow_self : s.setOverflow s.overflow = s := rfl

end setOverflow

section setMask
variable (s : State) (v : Mask)

@[simp] theorem State.setMask_geo : (s.setMask v).geo = s.geo := rfl
@[simp] theorem State.setMask_trk : (s.setMask v).trk = s.trk := rfl
@[simp] theorem State.setMask_ring : (s.setMask v).ring = s.ring := rfl
@[simp] theorem State.setMask_serial : (s.setMask v).serial = s.serial := rfl
@[simp] theorem State.setMask_loadPause : (s.setMask v).loadPause = s.loadPause := rfl
@[simp] theorem State.setMask_stations : (s.setMask v).stations = s.stations := rfl
@[simp] theorem State.setMask_banks : (s.setMask v).banks = s.banks := rfl
@[simp] theorem State.setMask_lanes : (s.setMask v).lanes = s.lanes := rfl
@[simp] theorem State.setMask_overflow : (s.setMask v).overflow = s.overflow := rfl
@[simp] theorem State.setMask_mask : (s.setMask v).mask = v := rfl
@[simp] theorem State.setMask_rx : (s.setMask v).rx = s.rx := rfl
@[simp] theorem State.setMask_inbound : (s.setMask v).inbound = s.inbound := rfl
@[simp] theorem State.setMask_tx : (s.setMask v).tx = s.tx := rfl
@[simp] theorem State.setMask_report : (s.setMask v).report = s.report := rfl
@[simp] theorem State.setMask_tally : (s.setMask v).tally = s.tally := rfl
@[simp] theorem State.setMask_events : (s.setMask v).events = s.events := rfl
@[simp] theorem State.setMask_counters : (s.setMask v).counters = s.counters := rfl
@[simp] theorem State.setMask_pins : (s.setMask v).pins = s.pins := rfl
@[simp] theorem State.setMask_choice : (s.setMask v).choice = s.choice := rfl
@[simp] theorem State.setMask_pending : (s.setMask v).pending = s.pending := rfl
@[simp] theorem State.setMask_setMask (w : Mask) : (s.setMask v).setMask w = s.setMask w := rfl
@[simp] theorem State.setMask_self : s.setMask s.mask = s := rfl

end setMask

section setRx
variable (s : State) (v : Receiver)

@[simp] theorem State.setRx_geo : (s.setRx v).geo = s.geo := rfl
@[simp] theorem State.setRx_trk : (s.setRx v).trk = s.trk := rfl
@[simp] theorem State.setRx_ring : (s.setRx v).ring = s.ring := rfl
@[simp] theorem State.setRx_serial : (s.setRx v).serial = s.serial := rfl
@[simp] theorem State.setRx_loadPause : (s.setRx v).loadPause = s.loadPause := rfl
@[simp] theorem State.setRx_stations : (s.setRx v).stations = s.stations := rfl
@[simp] theorem State.setRx_banks : (s.setRx v).banks = s.banks := rfl
@[simp] theorem State.setRx_lanes : (s.setRx v).lanes = s.lanes := rfl
@[simp] theorem State.setRx_overflow : (s.setRx v).overflow = s.overflow := rfl
@[simp] theorem State.setRx_mask : (s.setRx v).mask = s.mask := rfl
@[simp] theorem State.setRx_rx : (s.setRx v).rx = v := rfl
@[simp] theorem State.setRx_inbound : (s.setRx v).inbound = s.inbound := rfl
@[simp] theorem State.setRx_tx : (s.setRx v).tx = s.tx := rfl
@[simp] theorem State.setRx_report : (s.setRx v).report = s.report := rfl
@[simp] theorem State.setRx_tally : (s.setRx v).tally = s.tally := rfl
@[simp] theorem State.setRx_events : (s.setRx v).events = s.events := rfl
@[simp] theorem State.setRx_counters : (s.setRx v).counters = s.counters := rfl
@[simp] theorem State.setRx_pins : (s.setRx v).pins = s.pins := rfl
@[simp] theorem State.setRx_choice : (s.setRx v).choice = s.choice := rfl
@[simp] theorem State.setRx_pending : (s.setRx v).pending = s.pending := rfl
@[simp] theorem State.setRx_setRx (w : Receiver) : (s.setRx v).setRx w = s.setRx w := rfl
@[simp] theorem State.setRx_self : s.setRx s.rx = s := rfl

end setRx

section setInbound
variable (s : State) (v : List Frame)

@[simp] theorem State.setInbound_geo : (s.setInbound v).geo = s.geo := rfl
@[simp] theorem State.setInbound_trk : (s.setInbound v).trk = s.trk := rfl
@[simp] theorem State.setInbound_ring : (s.setInbound v).ring = s.ring := rfl
@[simp] theorem State.setInbound_serial : (s.setInbound v).serial = s.serial := rfl
@[simp] theorem State.setInbound_loadPause : (s.setInbound v).loadPause = s.loadPause := rfl
@[simp] theorem State.setInbound_stations : (s.setInbound v).stations = s.stations := rfl
@[simp] theorem State.setInbound_banks : (s.setInbound v).banks = s.banks := rfl
@[simp] theorem State.setInbound_lanes : (s.setInbound v).lanes = s.lanes := rfl
@[simp] theorem State.setInbound_overflow : (s.setInbound v).overflow = s.overflow := rfl
@[simp] theorem State.setInbound_mask : (s.setInbound v).mask = s.mask := rfl
@[simp] theorem State.setInbound_rx : (s.setInbound v).rx = s.rx := rfl
@[simp] theorem State.setInbound_inbound : (s.setInbound v).inbound = v := rfl
@[simp] theorem State.setInbound_tx : (s.setInbound v).tx = s.tx := rfl
@[simp] theorem State.setInbound_report : (s.setInbound v).report = s.report := rfl
@[simp] theorem State.setInbound_tally : (s.setInbound v).tally = s.tally := rfl
@[simp] theorem State.setInbound_events : (s.setInbound v).events = s.events := rfl
@[simp] theorem State.setInbound_counters : (s.setInbound v).counters = s.counters := rfl
@[simp] theorem State.setInbound_pins : (s.setInbound v).pins = s.pins := rfl
@[simp] theorem State.setInbound_choice : (s.setInbound v).choice = s.choice := rfl
@[simp] theorem State.setInbound_pending : (s.setInbound v).pending = s.pending := rfl
@[simp] theorem State.setInbound_setInbound (w : List Frame) : (s.setInbound v).setInbound w = s.setInbound w := rfl
@[simp] theorem State.setInbound_self : s.setInbound s.inbound = s := rfl

end setInbound

section setTx
variable (s : State) (v : Transmitter)

@[simp] theorem State.setTx_geo : (s.setTx v).geo = s.geo := rfl
@[simp] theorem State.setTx_trk : (s.setTx v).trk = s.trk := rfl
@[simp] theorem State.setTx_ring : (s.setTx v).ring = s.ring := rfl
@[simp] theorem State.setTx_serial : (s.setTx v).serial = s.serial := rfl
@[simp] theorem State.setTx_loadPause : (s.setTx v).loadPause = s.loadPause := rfl
@[simp] theorem State.setTx_stations : (s.setTx v).stations = s.stations := rfl
@[simp] theorem State.setTx_banks : (s.setTx v).banks = s.banks := rfl
@[simp] theorem State.setTx_lanes : (s.setTx v).lanes = s.lanes := rfl
@[simp] theorem State.setTx_overflow : (s.setTx v).overflow = s.overflow := rfl
@[simp] theorem State.setTx_mask : (s.setTx v).mask = s.mask := rfl
@[simp] theorem State.setTx_rx : (s.setTx v).rx = s.rx := rfl
@[simp] theorem State.setTx_inbound : (s.setTx v).inbound = s.inbound := rfl
@[simp] theorem State.setTx_tx : (s.setTx v).tx = v := rfl
@[simp] theorem State.setTx_report : (s.setTx v).report = s.report := rfl
@[simp] theorem State.setTx_tally : (s.setTx v).tally = s.tally := rfl
@[simp] theorem State.setTx_events : (s.setTx v).events = s.events := rfl
@[simp] theorem State.setTx_counters : (s.setTx v).counters = s.counters := rfl
@[simp] theorem State.setTx_pins : (s.setTx v).pins = s.pins := rfl
@[simp] theorem State.setTx_choice : (s.setTx v).choice = s.choice := rfl
@[simp] theorem State.setTx_pending : (s.setTx v).pending = s.pending := rfl
@[simp] theorem State.setTx_setTx (w : Transmitter) : (s.setTx v).setTx w = s.setTx w := rfl
@[simp] theorem State.setTx_self : s.setTx s.tx = s := rfl

end setTx

section setReport
variable (s : State) (v : ReportQueue)

@[simp] theorem State.setReport_geo : (s.setReport v).geo = s.geo := rfl
@[simp] theorem State.setReport_trk : (s.setReport v).trk = s.trk := rfl
@[simp] theorem State.setReport_ring : (s.setReport v).ring = s.ring := rfl
@[simp] theorem State.setReport_serial : (s.setReport v).serial = s.serial := rfl
@[simp] theorem State.setReport_loadPause : (s.setReport v).loadPause = s.loadPause := rfl
@[simp] theorem State.setReport_stations : (s.setReport v).stations = s.stations := rfl
@[simp] theorem State.setReport_banks : (s.setReport v).banks = s.banks := rfl
@[simp] theorem State.setReport_lanes : (s.setReport v).lanes = s.lanes := rfl
@[simp] theorem State.setReport_overflow : (s.setReport v).overflow = s.overflow := rfl
@[simp] theorem State.setReport_mask : (s.setReport v).mask = s.mask := rfl
@[simp] theorem State.setReport_rx : (s.setReport v).rx = s.rx := rfl
@[simp] theorem State.setReport_inbound : (s.setReport v).inbound = s.inbound := rfl
@[simp] theorem State.setReport_tx : (s.setReport v).tx = s.tx := rfl
@[simp] theorem State.setReport_report : (s.setReport v).report = v := rfl
@[simp] theorem State.setReport_tally : (s.setReport v).tally = s.tally := rfl
@[simp] theorem State.setReport_events : (s.setReport v).events = s.events := rfl
@[simp] theorem State.setReport_counters : (s.setReport v).counters = s.counters := rfl
@[simp] theorem State.setReport_pins : (s.setReport v).pins = s.pins := rfl
@[simp] theorem State.setReport_choice : (s.setReport v).choice = s.choice := rfl
@[simp] theorem State.setReport_pending : (s.setReport v).pending = s.pending := rfl
@[simp] theorem State.setReport_setReport (w : ReportQueue) : (s.setReport v).setReport w = s.setReport w := rfl
@[simp] theorem State.setReport_self : s.setReport s.report = s := rfl

end setReport

section setTally
variable (s : State) (v : Vector Nat 49)

@[simp] theorem State.setTally_geo : (s.setTally v).geo = s.geo := rfl
@[simp] theorem State.setTally_trk : (s.setTally v).trk = s.trk := rfl
@[simp] theorem State.setTally_ring : (s.setTally v).ring = s.ring := rfl
@[simp] theorem State.setTally_serial : (s.setTally v).serial = s.serial := rfl
@[simp] theorem State.setTally_loadPause : (s.setTally v).loadPause = s.loadPause := rfl
@[simp] theorem State.setTally_stations : (s.setTally v).stations = s.stations := rfl
@[simp] theorem State.setTally_banks : (s.setTally v).banks = s.banks := rfl
@[simp] theorem State.setTally_lanes : (s.setTally v).lanes = s.lanes := rfl
@[simp] theorem State.setTally_overflow : (s.setTally v).overflow = s.overflow := rfl
@[simp] theorem State.setTally_mask : (s.setTally v).mask = s.mask := rfl
@[simp] theorem State.setTally_rx : (s.setTally v).rx = s.rx := rfl
@[simp] theorem State.setTally_inbound : (s.setTally v).inbound = s.inbound := rfl
@[simp] theorem State.setTally_tx : (s.setTally v).tx = s.tx := rfl
@[simp] theorem State.setTally_report : (s.setTally v).report = s.report := rfl
@[simp] theorem State.setTally_tally : (s.setTally v).tally = v := rfl
@[simp] theorem State.setTally_events : (s.setTally v).events = s.events := rfl
@[simp] theorem State.setTally_counters : (s.setTally v).counters = s.counters := rfl
@[simp] theorem State.setTally_pins : (s.setTally v).pins = s.pins := rfl
@[simp] theorem State.setTally_choice : (s.setTally v).choice = s.choice := rfl
@[simp] theorem State.setTally_pending : (s.setTally v).pending = s.pending := rfl
@[simp] theorem State.setTally_setTally (w : Vector Nat 49) : (s.setTally v).setTally w = s.setTally w := rfl
@[simp] theorem State.setTally_self : s.setTally s.tally = s := rfl

end setTally

section setEvents
variable (s : State) (v : Events)

@[simp] theorem State.setEvents_geo : (s.setEvents v).geo = s.geo := rfl
@[simp] theorem State.setEvents_trk : (s.setEvents v).trk = s.trk := rfl
@[simp] theorem State.setEvents_ring : (s.setEvents v).ring = s.ring := rfl
@[simp] theorem State.setEvents_serial : (s.setEvents v).serial = s.serial := rfl
@[simp] theorem State.setEvents_loadPause : (s.setEvents v).loadPause = s.loadPause := rfl
@[simp] theorem State.setEvents_stations : (s.setEvents v).stations = s.stations := rfl
@[simp] theorem State.setEvents_banks : (s.setEvents v).banks = s.banks := rfl
@[simp] theorem State.setEvents_lanes : (s.setEvents v).lanes = s.lanes := rfl
@[simp] theorem State.setEvents_overflow : (s.setEvents v).overflow = s.overflow := rfl
@[simp] theorem State.setEvents_mask : (s.setEvents v).mask = s.mask := rfl
@[simp] theorem State.setEvents_rx : (s.setEvents v).rx = s.rx := rfl
@[simp] theorem State.setEvents_inbound : (s.setEvents v).inbound = s.inbound := rfl
@[simp] theorem State.setEvents_tx : (s.setEvents v).tx = s.tx := rfl
@[simp] theorem State.setEvents_report : (s.setEvents v).report = s.report := rfl
@[simp] theorem State.setEvents_tally : (s.setEvents v).tally = s.tally := rfl
@[simp] theorem State.setEvents_events : (s.setEvents v).events = v := rfl
@[simp] theorem State.setEvents_counters : (s.setEvents v).counters = s.counters := rfl
@[simp] theorem State.setEvents_pins : (s.setEvents v).pins = s.pins := rfl
@[simp] theorem State.setEvents_choice : (s.setEvents v).choice = s.choice := rfl
@[simp] theorem State.setEvents_pending : (s.setEvents v).pending = s.pending := rfl
@[simp] theorem State.setEvents_setEvents (w : Events) : (s.setEvents v).setEvents w = s.setEvents w := rfl
@[simp] theorem State.setEvents_self : s.setEvents s.events = s := rfl

end setEvents

section setCounters
variable (s : State) (v : Counters)

@[simp] theorem State.setCounters_geo : (s.setCounters v).geo = s.geo := rfl
@[simp] theorem State.setCounters_trk : (s.setCounters v).trk = s.trk := rfl
@[simp] theorem State.setCounters_ring : (s.setCounters v).ring = s.ring := rfl
@[simp] theorem State.setCounters_serial : (s.setCounters v).serial = s.serial := rfl
@[simp] theorem State.setCounters_loadPause : (s.setCounters v).loadPause = s.loadPause := rfl
@[simp] theorem State.setCounters_stations : (s.setCounters v).stations = s.stations := rfl
@[simp] theorem State.setCounters_banks : (s.setCounters v).banks = s.banks := rfl
@[simp] theorem State.setCounters_lanes : (s.setCounters v).lanes = s.lanes := rfl
@[simp] theorem State.setCounters_overflow : (s.setCounters v).overflow = s.overflow := rfl
@[simp] theorem State.setCounters_mask : (s.setCounters v).mask = s.mask := rfl
@[simp] theorem State.setCounters_rx : (s.setCounters v).rx = s.rx := rfl
@[simp] theorem State.setCounters_inbound : (s.setCounters v).inbound = s.inbound := rfl
@[simp] theorem State.setCounters_tx : (s.setCounters v).tx = s.tx := rfl
@[simp] theorem State.setCounters_report : (s.setCounters v).report = s.report := rfl
@[simp] theorem State.setCounters_tally : (s.setCounters v).tally = s.tally := rfl
@[simp] theorem State.setCounters_events : (s.setCounters v).events = s.events := rfl
@[simp] theorem State.setCounters_counters : (s.setCounters v).counters = v := rfl
@[simp] theorem State.setCounters_pins : (s.setCounters v).pins = s.pins := rfl
@[simp] theorem State.setCounters_choice : (s.setCounters v).choice = s.choice := rfl
@[simp] theorem State.setCounters_pending : (s.setCounters v).pending = s.pending := rfl
@[simp] theorem State.setCounters_setCounters (w : Counters) : (s.setCounters v).setCounters w = s.setCounters w := rfl
@[simp] theorem State.setCounters_self : s.setCounters s.counters = s := rfl

end setCounters

section setPins
variable (s : State) (v : Pins)

@[simp] theorem State.setPins_geo : (s.setPins v).geo = s.geo := rfl
@[simp] theorem State.setPins_trk : (s.setPins v).trk = s.trk := rfl
@[simp] theorem State.setPins_ring : (s.setPins v).ring = s.ring := rfl
@[simp] theorem State.setPins_serial : (s.setPins v).serial = s.serial := rfl
@[simp] theorem State.setPins_loadPause : (s.setPins v).loadPause = s.loadPause := rfl
@[simp] theorem State.setPins_stations : (s.setPins v).stations = s.stations := rfl
@[simp] theorem State.setPins_banks : (s.setPins v).banks = s.banks := rfl
@[simp] theorem State.setPins_lanes : (s.setPins v).lanes = s.lanes := rfl
@[simp] theorem State.setPins_overflow : (s.setPins v).overflow = s.overflow := rfl
@[simp] theorem State.setPins_mask : (s.setPins v).mask = s.mask := rfl
@[simp] theorem State.setPins_rx : (s.setPins v).rx = s.rx := rfl
@[simp] theorem State.setPins_inbound : (s.setPins v).inbound = s.inbound := rfl
@[simp] theorem State.setPins_tx : (s.setPins v).tx = s.tx := rfl
@[simp] theorem State.setPins_report : (s.setPins v).report = s.report := rfl
@[simp] theorem State.setPins_tally : (s.setPins v).tally = s.tally := rfl
@[simp] theorem State.setPins_events : (s.setPins v).events = s.events := rfl
@[simp] theorem State.setPins_counters : (s.setPins v).counters = s.counters := rfl
@[simp] theorem State.setPins_pins : (s.setPins v).pins = v := rfl
@[simp] theorem State.setPins_choice : (s.setPins v).choice = s.choice := rfl
@[simp] theorem State.setPins_pending : (s.setPins v).pending = s.pending := rfl
@[simp] theorem State.setPins_setPins (w : Pins) : (s.setPins v).setPins w = s.setPins w := rfl
@[simp] theorem State.setPins_self : s.setPins s.pins = s := rfl

end setPins

section setChoice
variable (s : State) (v : Nat)

@[simp] theorem State.setChoice_geo : (s.setChoice v).geo = s.geo := rfl
@[simp] theorem State.setChoice_trk : (s.setChoice v).trk = s.trk := rfl
@[simp] theorem State.setChoice_ring : (s.setChoice v).ring = s.ring := rfl
@[simp] theorem State.setChoice_serial : (s.setChoice v).serial = s.serial := rfl
@[simp] theorem State.setChoice_loadPause : (s.setChoice v).loadPause = s.loadPause := rfl
@[simp] theorem State.setChoice_stations : (s.setChoice v).stations = s.stations := rfl
@[simp] theorem State.setChoice_banks : (s.setChoice v).banks = s.banks := rfl
@[simp] theorem State.setChoice_lanes : (s.setChoice v).lanes = s.lanes := rfl
@[simp] theorem State.setChoice_overflow : (s.setChoice v).overflow = s.overflow := rfl
@[simp] theorem State.setChoice_mask : (s.setChoice v).mask = s.mask := rfl
@[simp] theorem State.setChoice_rx : (s.setChoice v).rx = s.rx := rfl
@[simp] theorem State.setChoice_inbound : (s.setChoice v).inbound = s.inbound := rfl
@[simp] theorem State.setChoice_tx : (s.setChoice v).tx = s.tx := rfl
@[simp] theorem State.setChoice_report : (s.setChoice v).report = s.report := rfl
@[simp] theorem State.setChoice_tally : (s.setChoice v).tally = s.tally := rfl
@[simp] theorem State.setChoice_events : (s.setChoice v).events = s.events := rfl
@[simp] theorem State.setChoice_counters : (s.setChoice v).counters = s.counters := rfl
@[simp] theorem State.setChoice_pins : (s.setChoice v).pins = s.pins := rfl
@[simp] theorem State.setChoice_choice : (s.setChoice v).choice = v := rfl
@[simp] theorem State.setChoice_pending : (s.setChoice v).pending = s.pending := rfl
@[simp] theorem State.setChoice_setChoice (w : Nat) : (s.setChoice v).setChoice w = s.setChoice w := rfl
@[simp] theorem State.setChoice_self : s.setChoice s.choice = s := rfl

end setChoice

section setPending
variable (s : State) (v : List Instr)

@[simp] theorem State.setPending_geo : (s.setPending v).geo = s.geo := rfl
@[simp] theorem State.setPending_trk : (s.setPending v).trk = s.trk := rfl
@[simp] theorem State.setPending_ring : (s.setPending v).ring = s.ring := rfl
@[simp] theorem State.setPending_serial : (s.setPending v).serial = s.serial := rfl
@[simp] theorem State.setPending_loadPause : (s.setPending v).loadPause = s.loadPause := rfl
@[simp] theorem State.setPending_stations : (s.setPending v).stations = s.stations := rfl
@[simp] theorem State.setPending_banks : (s.setPending v).banks = s.banks := rfl
@[simp] theorem State.setPending_lanes : (s.setPending v).lanes = s.lanes := rfl
@[simp] theorem State.setPending_overflow : (s.setPending v).overflow = s.overflow := rfl
@[simp] theorem State.setPending_mask : (s.setPending v).mask = s.mask := rfl
@[simp] theorem State.setPending_rx : (s.setPending v).rx = s.rx := rfl
@[simp] theorem State.setPending_inbound : (s.setPending v).inbound = s.inbound := rfl
@[simp] theorem State.setPending_tx : (s.setPending v).tx = s.tx := rfl
@[simp] theorem State.setPending_report : (s.setPending v).report = s.report := rfl
@[simp] theorem State.setPending_tally : (s.setPending v).tally = s.tally := rfl
@[simp] theorem State.setPending_events : (s.setPending v).events = s.events := rfl
@[simp] theorem State.setPending_counters : (s.setPending v).counters = s.counters := rfl
@[simp] theorem State.setPending_pins : (s.setPending v).pins = s.pins := rfl
@[simp] theorem State.setPending_choice : (s.setPending v).choice = s.choice := rfl
@[simp] theorem State.setPending_pending : (s.setPending v).pending = v := rfl
@[simp] theorem State.setPending_setPending (w : List Instr) : (s.setPending v).setPending w = s.setPending w := rfl
@[simp] theorem State.setPending_self : s.setPending s.pending = s := rfl

end setPending

end Sys2Proof.Machine
end

