-- ==== Sys2Proof/Laws/Frames.lean ====
section
/-!
SUPPORT. What each shared operation leaves alone: one lemma for each operation, which names every field of State that the
operation does not touch. A proof about one field passes over every operation that concerns others.
-/

namespace Sys2Proof.Machine

/-- A value that each step of a fold keeps is kept by the fold. -/
theorem foldl_keeps {α σ γ : Type} (val : σ → γ) (g : σ → α → σ) (h : ∀ t x, val (g t x) = val t) (xs : List α) (s : σ) :
    val (xs.foldl g s) = val s := by
  induction xs generalizing s with
  | nil => rfl
  | cons x xs ih => rw [List.foldl_cons, ih, h]

@[simp] theorem modLane_keeps (l : LaneNo) (g : Lane → Lane) (s : State) :
    (modLane l g s).geo = s.geo ∧ (modLane l g s).trk = s.trk ∧ (modLane l g s).ring = s.ring ∧
    (modLane l g s).serial = s.serial ∧ (modLane l g s).loadPause = s.loadPause ∧
    (modLane l g s).stations = s.stations ∧ (modLane l g s).banks = s.banks ∧ (modLane l g s).overflow = s.overflow ∧
    (modLane l g s).mask = s.mask ∧ (modLane l g s).rx = s.rx ∧ (modLane l g s).inbound = s.inbound ∧
    (modLane l g s).tx = s.tx ∧ (modLane l g s).report = s.report ∧ (modLane l g s).tally = s.tally ∧
    (modLane l g s).events = s.events ∧ (modLane l g s).counters = s.counters ∧ (modLane l g s).pins = s.pins ∧
    (modLane l g s).choice = s.choice ∧ (modLane l g s).pending = s.pending := by
  simp [modLane]

@[simp] theorem mapLanes_keeps (g : Lane → Lane) (s : State) :
    (mapLanes g s).geo = s.geo ∧ (mapLanes g s).trk = s.trk ∧ (mapLanes g s).ring = s.ring ∧
    (mapLanes g s).serial = s.serial ∧ (mapLanes g s).loadPause = s.loadPause ∧
    (mapLanes g s).stations = s.stations ∧ (mapLanes g s).banks = s.banks ∧ (mapLanes g s).overflow = s.overflow ∧
    (mapLanes g s).mask = s.mask ∧ (mapLanes g s).rx = s.rx ∧ (mapLanes g s).inbound = s.inbound ∧
    (mapLanes g s).tx = s.tx ∧ (mapLanes g s).report = s.report ∧ (mapLanes g s).tally = s.tally ∧
    (mapLanes g s).events = s.events ∧ (mapLanes g s).counters = s.counters ∧ (mapLanes g s).pins = s.pins ∧
    (mapLanes g s).choice = s.choice ∧ (mapLanes g s).pending = s.pending := by
  simp [mapLanes]

@[simp] theorem modStation_keeps (m : StationNo) (g : Station → Station) (s : State) :
    (modStation m g s).geo = s.geo ∧ (modStation m g s).trk = s.trk ∧ (modStation m g s).ring = s.ring ∧
    (modStation m g s).serial = s.serial ∧ (modStation m g s).loadPause = s.loadPause ∧
    (modStation m g s).banks = s.banks ∧ (modStation m g s).lanes = s.lanes ∧
    (modStation m g s).overflow = s.overflow ∧ (modStation m g s).mask = s.mask ∧ (modStation m g s).rx = s.rx ∧
    (modStation m g s).inbound = s.inbound ∧ (modStation m g s).tx = s.tx ∧ (modStation m g s).report = s.report ∧
    (modStation m g s).tally = s.tally ∧ (modStation m g s).events = s.events ∧
    (modStation m g s).counters = s.counters ∧ (modStation m g s).pins = s.pins ∧
    (modStation m g s).choice = s.choice ∧ (modStation m g s).pending = s.pending := by
  simp [modStation]

@[simp] theorem setRecord_keeps (k : PocketNo) (r : Option Part) (s : State) :
    (setRecord k r s).geo = s.geo ∧ (setRecord k r s).trk = s.trk ∧ (setRecord k r s).serial = s.serial ∧
    (setRecord k r s).loadPause = s.loadPause ∧ (setRecord k r s).stations = s.stations ∧
    (setRecord k r s).banks = s.banks ∧ (setRecord k r s).lanes = s.lanes ∧ (setRecord k r s).overflow = s.overflow ∧
    (setRecord k r s).mask = s.mask ∧ (setRecord k r s).rx = s.rx ∧ (setRecord k r s).inbound = s.inbound ∧
    (setRecord k r s).tx = s.tx ∧ (setRecord k r s).report = s.report ∧ (setRecord k r s).tally = s.tally ∧
    (setRecord k r s).events = s.events ∧ (setRecord k r s).counters = s.counters ∧ (setRecord k r s).pins = s.pins ∧
    (setRecord k r s).choice = s.choice ∧ (setRecord k r s).pending = s.pending := by
  simp [setRecord]

@[simp] theorem modBank_keeps (id : BankId) (g : Bank → Bank) (s : State) :
    (modBank id g s).geo = s.geo ∧ (modBank id g s).trk = s.trk ∧ (modBank id g s).ring = s.ring ∧
    (modBank id g s).serial = s.serial ∧ (modBank id g s).loadPause = s.loadPause ∧
    (modBank id g s).stations = s.stations ∧ (modBank id g s).lanes = s.lanes ∧
    (modBank id g s).overflow = s.overflow ∧ (modBank id g s).mask = s.mask ∧ (modBank id g s).rx = s.rx ∧
    (modBank id g s).inbound = s.inbound ∧ (modBank id g s).tx = s.tx ∧ (modBank id g s).report = s.report ∧
    (modBank id g s).tally = s.tally ∧ (modBank id g s).events = s.events ∧ (modBank id g s).counters = s.counters ∧
    (modBank id g s).pins = s.pins ∧ (modBank id g s).choice = s.choice ∧ (modBank id g s).pending = s.pending := by
  cases id <;> simp [modBank]

@[simp] theorem admitHanded_keeps (s : State) :
    (admitHanded s).geo = s.geo ∧ (admitHanded s).trk = s.trk ∧ (admitHanded s).ring = s.ring ∧
    (admitHanded s).serial = s.serial ∧ (admitHanded s).loadPause = s.loadPause ∧
    (admitHanded s).stations = s.stations ∧ (admitHanded s).banks = s.banks ∧ (admitHanded s).lanes = s.lanes ∧
    (admitHanded s).overflow = s.overflow ∧ (admitHanded s).mask = s.mask ∧ (admitHanded s).rx = s.rx ∧
    (admitHanded s).inbound = s.inbound ∧ (admitHanded s).tx = s.tx ∧ (admitHanded s).tally = s.tally ∧
    (admitHanded s).counters = s.counters ∧ (admitHanded s).pins = s.pins ∧ (admitHanded s).choice = s.choice ∧
    (admitHanded s).pending = s.pending := by
  unfold admitHanded; try dsimp only
  repeat' split
  all_goals simp

@[simp] theorem opened_keeps (s : State) :
    (opened s).geo = s.geo ∧ (opened s).trk = s.trk ∧ (opened s).ring = s.ring ∧ (opened s).serial = s.serial ∧
    (opened s).loadPause = s.loadPause ∧ (opened s).stations = s.stations ∧ (opened s).banks = s.banks ∧
    (opened s).lanes = s.lanes ∧ (opened s).overflow = s.overflow ∧ (opened s).mask = s.mask ∧ (opened s).rx = s.rx ∧
    (opened s).inbound = s.inbound ∧ (opened s).tx = s.tx ∧ (opened s).tally = s.tally ∧
    (opened s).counters = s.counters ∧ (opened s).pins = s.pins ∧ (opened s).choice = s.choice ∧
    (opened s).pending = s.pending := by
  simp [opened]

@[simp] theorem enqueue_keeps (f : OutFrame) (s : State) :
    (enqueue f s).geo = s.geo ∧ (enqueue f s).trk = s.trk ∧ (enqueue f s).ring = s.ring ∧
    (enqueue f s).serial = s.serial ∧ (enqueue f s).loadPause = s.loadPause ∧ (enqueue f s).stations = s.stations ∧
    (enqueue f s).banks = s.banks ∧ (enqueue f s).lanes = s.lanes ∧ (enqueue f s).overflow = s.overflow ∧
    (enqueue f s).mask = s.mask ∧ (enqueue f s).rx = s.rx ∧ (enqueue f s).inbound = s.inbound ∧
    (enqueue f s).tx = s.tx ∧ (enqueue f s).tally = s.tally ∧ (enqueue f s).counters = s.counters ∧
    (enqueue f s).pins = s.pins ∧ (enqueue f s).choice = s.choice ∧ (enqueue f s).pending = s.pending := by
  simp [enqueue]

@[simp] theorem offerNotice_keeps (s : State) :
    (offerNotice s).geo = s.geo ∧ (offerNotice s).trk = s.trk ∧ (offerNotice s).ring = s.ring ∧
    (offerNotice s).serial = s.serial ∧ (offerNotice s).loadPause = s.loadPause ∧
    (offerNotice s).stations = s.stations ∧ (offerNotice s).banks = s.banks ∧ (offerNotice s).lanes = s.lanes ∧
    (offerNotice s).overflow = s.overflow ∧ (offerNotice s).mask = s.mask ∧ (offerNotice s).rx = s.rx ∧
    (offerNotice s).inbound = s.inbound ∧ (offerNotice s).tx = s.tx ∧ (offerNotice s).tally = s.tally ∧
    (offerNotice s).counters = s.counters ∧ (offerNotice s).pins = s.pins ∧ (offerNotice s).choice = s.choice ∧
    (offerNotice s).pending = s.pending := by
  unfold offerNotice; try dsimp only
  repeat' split
  all_goals simp

@[simp] theorem raise_keeps (f : Flag) (s : State) :
    (raise f s).geo = s.geo ∧ (raise f s).trk = s.trk ∧ (raise f s).ring = s.ring ∧ (raise f s).serial = s.serial ∧
    (raise f s).loadPause = s.loadPause ∧ (raise f s).stations = s.stations ∧ (raise f s).banks = s.banks ∧
    (raise f s).lanes = s.lanes ∧ (raise f s).overflow = s.overflow ∧ (raise f s).mask = s.mask ∧
    (raise f s).rx = s.rx ∧ (raise f s).inbound = s.inbound ∧ (raise f s).tx = s.tx ∧ (raise f s).tally = s.tally ∧
    (raise f s).counters = s.counters ∧ (raise f s).pins = s.pins ∧ (raise f s).choice = s.choice ∧
    (raise f s).pending = s.pending := by
  unfold raise; try dsimp only
  repeat' split
  all_goals simp

@[simp] theorem countRunt_keeps (s : State) :
    (countRunt s).geo = s.geo ∧ (countRunt s).trk = s.trk ∧ (countRunt s).ring = s.ring ∧
    (countRunt s).serial = s.serial ∧ (countRunt s).loadPause = s.loadPause ∧ (countRunt s).stations = s.stations ∧
    (countRunt s).banks = s.banks ∧ (countRunt s).lanes = s.lanes ∧ (countRunt s).overflow = s.overflow ∧
    (countRunt s).mask = s.mask ∧ (countRunt s).rx = s.rx ∧ (countRunt s).inbound = s.inbound ∧
    (countRunt s).tx = s.tx ∧ (countRunt s).report = s.report ∧ (countRunt s).tally = s.tally ∧
    (countRunt s).events = s.events ∧ (countRunt s).pins = s.pins ∧ (countRunt s).choice = s.choice ∧
    (countRunt s).pending = s.pending := by
  simp [countRunt]

@[simp] theorem countBadSum_keeps (s : State) :
    (countBadSum s).geo = s.geo ∧ (countBadSum s).trk = s.trk ∧ (countBadSum s).ring = s.ring ∧
    (countBadSum s).serial = s.serial ∧ (countBadSum s).loadPause = s.loadPause ∧
    (countBadSum s).stations = s.stations ∧ (countBadSum s).banks = s.banks ∧ (countBadSum s).lanes = s.lanes ∧
    (countBadSum s).overflow = s.overflow ∧ (countBadSum s).mask = s.mask ∧ (countBadSum s).rx = s.rx ∧
    (countBadSum s).inbound = s.inbound ∧ (countBadSum s).tx = s.tx ∧ (countBadSum s).report = s.report ∧
    (countBadSum s).tally = s.tally ∧ (countBadSum s).events = s.events ∧ (countBadSum s).pins = s.pins ∧
    (countBadSum s).choice = s.choice ∧ (countBadSum s).pending = s.pending := by
  simp [countBadSum]

@[simp] theorem countOverrun_keeps (s : State) :
    (countOverrun s).geo = s.geo ∧ (countOverrun s).trk = s.trk ∧ (countOverrun s).ring = s.ring ∧
    (countOverrun s).serial = s.serial ∧ (countOverrun s).loadPause = s.loadPause ∧
    (countOverrun s).stations = s.stations ∧ (countOverrun s).banks = s.banks ∧ (countOverrun s).lanes = s.lanes ∧
    (countOverrun s).overflow = s.overflow ∧ (countOverrun s).mask = s.mask ∧ (countOverrun s).rx = s.rx ∧
    (countOverrun s).inbound = s.inbound ∧ (countOverrun s).tx = s.tx ∧ (countOverrun s).report = s.report ∧
    (countOverrun s).tally = s.tally ∧ (countOverrun s).events = s.events ∧ (countOverrun s).pins = s.pins ∧
    (countOverrun s).choice = s.choice ∧ (countOverrun s).pending = s.pending := by
  simp [countOverrun]

@[simp] theorem countLate_keeps (s : State) :
    (countLate s).geo = s.geo ∧ (countLate s).trk = s.trk ∧ (countLate s).ring = s.ring ∧
    (countLate s).serial = s.serial ∧ (countLate s).loadPause = s.loadPause ∧ (countLate s).stations = s.stations ∧
    (countLate s).banks = s.banks ∧ (countLate s).lanes = s.lanes ∧ (countLate s).overflow = s.overflow ∧
    (countLate s).mask = s.mask ∧ (countLate s).rx = s.rx ∧ (countLate s).inbound = s.inbound ∧
    (countLate s).tx = s.tx ∧ (countLate s).report = s.report ∧ (countLate s).tally = s.tally ∧
    (countLate s).events = s.events ∧ (countLate s).pins = s.pins ∧ (countLate s).choice = s.choice ∧
    (countLate s).pending = s.pending := by
  simp [countLate]

@[simp] theorem countDuplicate_keeps (s : State) :
    (countDuplicate s).geo = s.geo ∧ (countDuplicate s).trk = s.trk ∧ (countDuplicate s).ring = s.ring ∧
    (countDuplicate s).serial = s.serial ∧ (countDuplicate s).loadPause = s.loadPause ∧
    (countDuplicate s).stations = s.stations ∧ (countDuplicate s).banks = s.banks ∧
    (countDuplicate s).lanes = s.lanes ∧ (countDuplicate s).overflow = s.overflow ∧
    (countDuplicate s).mask = s.mask ∧ (countDuplicate s).rx = s.rx ∧ (countDuplicate s).inbound = s.inbound ∧
    (countDuplicate s).tx = s.tx ∧ (countDuplicate s).report = s.report ∧ (countDuplicate s).tally = s.tally ∧
    (countDuplicate s).events = s.events ∧ (countDuplicate s).pins = s.pins ∧ (countDuplicate s).choice = s.choice ∧
    (countDuplicate s).pending = s.pending := by
  simp [countDuplicate]

@[simp] theorem countUnexpected_keeps (s : State) :
    (countUnexpected s).geo = s.geo ∧ (countUnexpected s).trk = s.trk ∧ (countUnexpected s).ring = s.ring ∧
    (countUnexpected s).serial = s.serial ∧ (countUnexpected s).loadPause = s.loadPause ∧
    (countUnexpected s).stations = s.stations ∧ (countUnexpected s).banks = s.banks ∧
    (countUnexpected s).lanes = s.lanes ∧ (countUnexpected s).overflow = s.overflow ∧
    (countUnexpected s).mask = s.mask ∧ (countUnexpected s).rx = s.rx ∧ (countUnexpected s).inbound = s.inbound ∧
    (countUnexpected s).tx = s.tx ∧ (countUnexpected s).report = s.report ∧ (countUnexpected s).tally = s.tally ∧
    (countUnexpected s).events = s.events ∧ (countUnexpected s).pins = s.pins ∧
    (countUnexpected s).choice = s.choice ∧ (countUnexpected s).pending = s.pending := by
  simp [countUnexpected]

@[simp] theorem countStray_keeps (s : State) :
    (countStray s).geo = s.geo ∧ (countStray s).trk = s.trk ∧ (countStray s).ring = s.ring ∧
    (countStray s).serial = s.serial ∧ (countStray s).loadPause = s.loadPause ∧
    (countStray s).stations = s.stations ∧ (countStray s).banks = s.banks ∧ (countStray s).lanes = s.lanes ∧
    (countStray s).overflow = s.overflow ∧ (countStray s).mask = s.mask ∧ (countStray s).rx = s.rx ∧
    (countStray s).inbound = s.inbound ∧ (countStray s).tx = s.tx ∧ (countStray s).report = s.report ∧
    (countStray s).tally = s.tally ∧ (countStray s).events = s.events ∧ (countStray s).pins = s.pins ∧
    (countStray s).choice = s.choice ∧ (countStray s).pending = s.pending := by
  simp [countStray]

@[simp] theorem countEjectMiss_keeps (s : State) :
    (countEjectMiss s).geo = s.geo ∧ (countEjectMiss s).trk = s.trk ∧ (countEjectMiss s).ring = s.ring ∧
    (countEjectMiss s).serial = s.serial ∧ (countEjectMiss s).loadPause = s.loadPause ∧
    (countEjectMiss s).stations = s.stations ∧ (countEjectMiss s).banks = s.banks ∧
    (countEjectMiss s).lanes = s.lanes ∧ (countEjectMiss s).overflow = s.overflow ∧
    (countEjectMiss s).mask = s.mask ∧ (countEjectMiss s).rx = s.rx ∧ (countEjectMiss s).inbound = s.inbound ∧
    (countEjectMiss s).tx = s.tx ∧ (countEjectMiss s).report = s.report ∧ (countEjectMiss s).tally = s.tally ∧
    (countEjectMiss s).events = s.events ∧ (countEjectMiss s).pins = s.pins ∧ (countEjectMiss s).choice = s.choice ∧
    (countEjectMiss s).pending = s.pending := by
  simp [countEjectMiss]

@[simp] theorem countReportDrop_keeps (s : State) :
    (countReportDrop s).geo = s.geo ∧ (countReportDrop s).trk = s.trk ∧ (countReportDrop s).ring = s.ring ∧
    (countReportDrop s).serial = s.serial ∧ (countReportDrop s).loadPause = s.loadPause ∧
    (countReportDrop s).stations = s.stations ∧ (countReportDrop s).banks = s.banks ∧
    (countReportDrop s).lanes = s.lanes ∧ (countReportDrop s).overflow = s.overflow ∧
    (countReportDrop s).mask = s.mask ∧ (countReportDrop s).rx = s.rx ∧ (countReportDrop s).inbound = s.inbound ∧
    (countReportDrop s).tx = s.tx ∧ (countReportDrop s).report = s.report ∧ (countReportDrop s).tally = s.tally ∧
    (countReportDrop s).events = s.events ∧ (countReportDrop s).pins = s.pins ∧
    (countReportDrop s).choice = s.choice ∧ (countReportDrop s).pending = s.pending := by
  simp [countReportDrop]

@[simp] theorem tallyCount_keeps (i : Fin 49) (s : State) :
    (tallyCount i s).geo = s.geo ∧ (tallyCount i s).trk = s.trk ∧ (tallyCount i s).ring = s.ring ∧
    (tallyCount i s).serial = s.serial ∧ (tallyCount i s).loadPause = s.loadPause ∧
    (tallyCount i s).stations = s.stations ∧ (tallyCount i s).banks = s.banks ∧ (tallyCount i s).lanes = s.lanes ∧
    (tallyCount i s).overflow = s.overflow ∧ (tallyCount i s).mask = s.mask ∧ (tallyCount i s).rx = s.rx ∧
    (tallyCount i s).inbound = s.inbound ∧ (tallyCount i s).tx = s.tx ∧ (tallyCount i s).report = s.report ∧
    (tallyCount i s).events = s.events ∧ (tallyCount i s).counters = s.counters ∧ (tallyCount i s).pins = s.pins ∧
    (tallyCount i s).choice = s.choice ∧ (tallyCount i s).pending = s.pending := by
  simp [tallyCount]

@[simp] theorem handReport_keeps (r : PartReport) (s : State) :
    (handReport r s).geo = s.geo ∧ (handReport r s).trk = s.trk ∧ (handReport r s).ring = s.ring ∧
    (handReport r s).serial = s.serial ∧ (handReport r s).loadPause = s.loadPause ∧
    (handReport r s).stations = s.stations ∧ (handReport r s).banks = s.banks ∧ (handReport r s).lanes = s.lanes ∧
    (handReport r s).overflow = s.overflow ∧ (handReport r s).mask = s.mask ∧ (handReport r s).rx = s.rx ∧
    (handReport r s).inbound = s.inbound ∧ (handReport r s).tx = s.tx ∧ (handReport r s).tally = s.tally ∧
    (handReport r s).pins = s.pins ∧ (handReport r s).choice = s.choice ∧ (handReport r s).pending = s.pending := by
  unfold handReport; try dsimp only
  repeat' split
  all_goals simp

@[simp] theorem keepPlace_keeps (s : State) :
    (keepPlace s).geo = s.geo ∧ (keepPlace s).trk = s.trk ∧ (keepPlace s).ring = s.ring ∧
    (keepPlace s).serial = s.serial ∧ (keepPlace s).loadPause = s.loadPause ∧ (keepPlace s).stations = s.stations ∧
    (keepPlace s).banks = s.banks ∧ (keepPlace s).lanes = s.lanes ∧ (keepPlace s).overflow = s.overflow ∧
    (keepPlace s).mask = s.mask ∧ (keepPlace s).rx = s.rx ∧ (keepPlace s).inbound = s.inbound ∧
    (keepPlace s).tx = s.tx ∧ (keepPlace s).tally = s.tally ∧ (keepPlace s).events = s.events ∧
    (keepPlace s).counters = s.counters ∧ (keepPlace s).pins = s.pins ∧ (keepPlace s).choice = s.choice ∧
    (keepPlace s).pending = s.pending := by
  simp [keepPlace]

@[simp] theorem dropHead_keeps (s : State) :
    (dropHead s).geo = s.geo ∧ (dropHead s).trk = s.trk ∧ (dropHead s).ring = s.ring ∧
    (dropHead s).serial = s.serial ∧ (dropHead s).loadPause = s.loadPause ∧ (dropHead s).stations = s.stations ∧
    (dropHead s).banks = s.banks ∧ (dropHead s).lanes = s.lanes ∧ (dropHead s).overflow = s.overflow ∧
    (dropHead s).mask = s.mask ∧ (dropHead s).rx = s.rx ∧ (dropHead s).tx = s.tx ∧ (dropHead s).report = s.report ∧
    (dropHead s).tally = s.tally ∧ (dropHead s).events = s.events ∧ (dropHead s).counters = s.counters ∧
    (dropHead s).pins = s.pins ∧ (dropHead s).choice = s.choice ∧ (dropHead s).pending = s.pending := by
  simp [dropHead]

@[simp] theorem placeReply_keeps (f : Frame) (a : Answer) (s : State) :
    (placeReply f a s).geo = s.geo ∧ (placeReply f a s).trk = s.trk ∧ (placeReply f a s).ring = s.ring ∧
    (placeReply f a s).serial = s.serial ∧ (placeReply f a s).loadPause = s.loadPause ∧
    (placeReply f a s).stations = s.stations ∧ (placeReply f a s).banks = s.banks ∧
    (placeReply f a s).lanes = s.lanes ∧ (placeReply f a s).overflow = s.overflow ∧
    (placeReply f a s).mask = s.mask ∧ (placeReply f a s).rx = s.rx ∧ (placeReply f a s).inbound = s.inbound ∧
    (placeReply f a s).tx = s.tx ∧ (placeReply f a s).tally = s.tally ∧ (placeReply f a s).counters = s.counters ∧
    (placeReply f a s).pins = s.pins ∧ (placeReply f a s).choice = s.choice ∧ (placeReply f a s).pending = s.pending := by
  simp [placeReply]

@[simp] theorem deliver_keeps (l : LaneNo) (k : PocketNo) (p : Part) (s : State) :
    (deliver l k p s).geo = s.geo ∧ (deliver l k p s).trk = s.trk ∧ (deliver l k p s).serial = s.serial ∧
    (deliver l k p s).loadPause = s.loadPause ∧ (deliver l k p s).stations = s.stations ∧
    (deliver l k p s).banks = s.banks ∧ (deliver l k p s).overflow = s.overflow ∧ (deliver l k p s).mask = s.mask ∧
    (deliver l k p s).rx = s.rx ∧ (deliver l k p s).inbound = s.inbound ∧ (deliver l k p s).tx = s.tx ∧
    (deliver l k p s).pins = s.pins ∧ (deliver l k p s).choice = s.choice ∧ (deliver l k p s).pending = s.pending := by
  simp [deliver]

@[simp] theorem depart_keeps (o : OutcomeKind) (k : PocketNo) (p : Part) (s : State) :
    (depart o k p s).geo = s.geo ∧ (depart o k p s).trk = s.trk ∧ (depart o k p s).serial = s.serial ∧
    (depart o k p s).loadPause = s.loadPause ∧ (depart o k p s).stations = s.stations ∧
    (depart o k p s).banks = s.banks ∧ (depart o k p s).lanes = s.lanes ∧ (depart o k p s).overflow = s.overflow ∧
    (depart o k p s).mask = s.mask ∧ (depart o k p s).rx = s.rx ∧ (depart o k p s).inbound = s.inbound ∧
    (depart o k p s).tx = s.tx ∧ (depart o k p s).pins = s.pins ∧ (depart o k p s).choice = s.choice ∧
    (depart o k p s).pending = s.pending := by
  simp [depart]

@[simp] theorem unbind_keeps (id : BankId) (s : State) :
    (unbind id s).geo = s.geo ∧ (unbind id s).trk = s.trk ∧ (unbind id s).ring = s.ring ∧
    (unbind id s).serial = s.serial ∧ (unbind id s).loadPause = s.loadPause ∧ (unbind id s).stations = s.stations ∧
    (unbind id s).lanes = s.lanes ∧ (unbind id s).overflow = s.overflow ∧ (unbind id s).mask = s.mask ∧
    (unbind id s).rx = s.rx ∧ (unbind id s).inbound = s.inbound ∧ (unbind id s).tx = s.tx ∧
    (unbind id s).report = s.report ∧ (unbind id s).tally = s.tally ∧ (unbind id s).events = s.events ∧
    (unbind id s).counters = s.counters ∧ (unbind id s).pins = s.pins ∧ (unbind id s).choice = s.choice ∧
    (unbind id s).pending = s.pending := by
  simp [unbind]

@[simp] theorem departRecord_keeps (k : PocketNo) (p : Part) (s : State) :
    (departRecord k p s).geo = s.geo ∧ (departRecord k p s).trk = s.trk ∧ (departRecord k p s).serial = s.serial ∧
    (departRecord k p s).loadPause = s.loadPause ∧ (departRecord k p s).stations = s.stations ∧
    (departRecord k p s).overflow = s.overflow ∧ (departRecord k p s).mask = s.mask ∧
    (departRecord k p s).rx = s.rx ∧ (departRecord k p s).inbound = s.inbound ∧ (departRecord k p s).tx = s.tx ∧
    (departRecord k p s).pins = s.pins ∧ (departRecord k p s).choice = s.choice ∧
    (departRecord k p s).pending = s.pending := by
  unfold departRecord; try dsimp only
  repeat' split
  all_goals simp

@[simp] theorem departure_keeps (s : State) :
    (departure s).geo = s.geo ∧ (departure s).trk = s.trk ∧ (departure s).serial = s.serial ∧
    (departure s).loadPause = s.loadPause ∧ (departure s).stations = s.stations ∧
    (departure s).overflow = s.overflow ∧ (departure s).mask = s.mask ∧ (departure s).rx = s.rx ∧
    (departure s).inbound = s.inbound ∧ (departure s).tx = s.tx ∧ (departure s).pins = s.pins ∧
    (departure s).choice = s.choice ∧ (departure s).pending = s.pending := by
  unfold departure; try dsimp only
  repeat' split
  all_goals simp

@[simp] theorem passCheck_keeps (l : LaneNo) (s : State) :
    (passCheck l s).geo = s.geo ∧ (passCheck l s).trk = s.trk ∧ (passCheck l s).serial = s.serial ∧
    (passCheck l s).loadPause = s.loadPause ∧ (passCheck l s).stations = s.stations ∧
    (passCheck l s).banks = s.banks ∧ (passCheck l s).overflow = s.overflow ∧ (passCheck l s).mask = s.mask ∧
    (passCheck l s).rx = s.rx ∧ (passCheck l s).inbound = s.inbound ∧ (passCheck l s).tx = s.tx ∧
    (passCheck l s).report = s.report ∧ (passCheck l s).tally = s.tally ∧ (passCheck l s).events = s.events ∧
    (passCheck l s).counters = s.counters ∧ (passCheck l s).pins = s.pins ∧ (passCheck l s).choice = s.choice ∧
    (passCheck l s).pending = s.pending := by
  unfold passCheck; try dsimp only
  repeat' split
  all_goals simp

@[simp] theorem purgeRelease_keeps (k : PocketNo) (p : Part) (s : State) :
    (purgeRelease k p s).geo = s.geo ∧ (purgeRelease k p s).trk = s.trk ∧ (purgeRelease k p s).ring = s.ring ∧
    (purgeRelease k p s).serial = s.serial ∧ (purgeRelease k p s).loadPause = s.loadPause ∧
    (purgeRelease k p s).stations = s.stations ∧ (purgeRelease k p s).overflow = s.overflow ∧
    (purgeRelease k p s).mask = s.mask ∧ (purgeRelease k p s).rx = s.rx ∧ (purgeRelease k p s).inbound = s.inbound ∧
    (purgeRelease k p s).tx = s.tx ∧ (purgeRelease k p s).report = s.report ∧ (purgeRelease k p s).tally = s.tally ∧
    (purgeRelease k p s).events = s.events ∧ (purgeRelease k p s).counters = s.counters ∧
    (purgeRelease k p s).pins = s.pins ∧ (purgeRelease k p s).choice = s.choice ∧
    (purgeRelease k p s).pending = s.pending := by
  unfold purgeRelease; try dsimp only
  repeat' split
  all_goals simp

@[simp] theorem purgeOne_keeps (b : Bool) (k : PocketNo) (s : State) :
    (purgeOne b k s).geo = s.geo ∧ (purgeOne b k s).trk = s.trk ∧ (purgeOne b k s).serial = s.serial ∧
    (purgeOne b k s).loadPause = s.loadPause ∧ (purgeOne b k s).stations = s.stations ∧
    (purgeOne b k s).overflow = s.overflow ∧ (purgeOne b k s).mask = s.mask ∧ (purgeOne b k s).rx = s.rx ∧
    (purgeOne b k s).inbound = s.inbound ∧ (purgeOne b k s).tx = s.tx ∧ (purgeOne b k s).pins = s.pins ∧
    (purgeOne b k s).choice = s.choice ∧ (purgeOne b k s).pending = s.pending := by
  unfold purgeOne; try dsimp only
  repeat' split
  all_goals simp

@[simp] theorem purge_keeps (load : Nat) (b : Bool) (s : State) :
    (purge load b s).geo = s.geo ∧ (purge load b s).trk = s.trk ∧ (purge load b s).serial = s.serial ∧
    (purge load b s).loadPause = s.loadPause ∧ (purge load b s).stations = s.stations ∧
    (purge load b s).overflow = s.overflow ∧ (purge load b s).mask = s.mask ∧ (purge load b s).rx = s.rx ∧
    (purge load b s).inbound = s.inbound ∧ (purge load b s).tx = s.tx ∧ (purge load b s).pins = s.pins ∧
    (purge load b s).choice = s.choice ∧ (purge load b s).pending = s.pending := by
  have h := foldl_keeps (fun t : State => (t.geo, t.trk, t.serial, t.loadPause, t.stations, t.overflow, t.mask, t.rx, t.inbound, t.tx, t.pins, t.choice, t.pending)) (fun t k => purgeOne b k t) (by simp) (purgeOrder s.geo load) s
  simpa [purge] using h

@[simp] theorem reserve_keeps (l : LaneNo) (s : State) :
    (reserve l s).geo = s.geo ∧ (reserve l s).trk = s.trk ∧ (reserve l s).ring = s.ring ∧
    (reserve l s).serial = s.serial ∧ (reserve l s).loadPause = s.loadPause ∧ (reserve l s).stations = s.stations ∧
    (reserve l s).banks = s.banks ∧ (reserve l s).overflow = s.overflow ∧ (reserve l s).mask = s.mask ∧
    (reserve l s).rx = s.rx ∧ (reserve l s).inbound = s.inbound ∧ (reserve l s).tx = s.tx ∧
    (reserve l s).tally = s.tally ∧ (reserve l s).counters = s.counters ∧ (reserve l s).pins = s.pins ∧
    (reserve l s).choice = s.choice ∧ (reserve l s).pending = s.pending := by
  unfold reserve; try dsimp only
  repeat' split
  all_goals simp

@[simp] theorem resolveRoute_keeps (k : PocketNo) (p : Part) (v : Verdict) (r : Route) (s : State) :
    (resolveRoute k p v r s).geo = s.geo ∧ (resolveRoute k p v r s).trk = s.trk ∧
    (resolveRoute k p v r s).serial = s.serial ∧ (resolveRoute k p v r s).loadPause = s.loadPause ∧
    (resolveRoute k p v r s).stations = s.stations ∧ (resolveRoute k p v r s).banks = s.banks ∧
    (resolveRoute k p v r s).overflow = s.overflow ∧ (resolveRoute k p v r s).mask = s.mask ∧
    (resolveRoute k p v r s).rx = s.rx ∧ (resolveRoute k p v r s).inbound = s.inbound ∧
    (resolveRoute k p v r s).tx = s.tx ∧ (resolveRoute k p v r s).tally = s.tally ∧
    (resolveRoute k p v r s).counters = s.counters ∧ (resolveRoute k p v r s).pins = s.pins ∧
    (resolveRoute k p v r s).choice = s.choice ∧ (resolveRoute k p v r s).pending = s.pending := by
  unfold resolveRoute; try dsimp only
  repeat' split
  all_goals simp

@[simp] theorem classify_keeps (k : PocketNo) (s : State) :
    (classify k s).geo = s.geo ∧ (classify k s).trk = s.trk ∧ (classify k s).serial = s.serial ∧
    (classify k s).loadPause = s.loadPause ∧ (classify k s).stations = s.stations ∧
    (classify k s).overflow = s.overflow ∧ (classify k s).mask = s.mask ∧ (classify k s).rx = s.rx ∧
    (classify k s).inbound = s.inbound ∧ (classify k s).tx = s.tx ∧ (classify k s).counters = s.counters ∧
    (classify k s).pins = s.pins ∧ (classify k s).choice = s.choice ∧ (classify k s).pending = s.pending := by
  unfold classify; try dsimp only
  repeat' split
  all_goals simp

@[simp] theorem writeSlot_keeps (k : PocketNo) (m : StationNo) (x : Slot) (s : State) :
    (writeSlot k m x s).geo = s.geo ∧ (writeSlot k m x s).trk = s.trk ∧ (writeSlot k m x s).serial = s.serial ∧
    (writeSlot k m x s).loadPause = s.loadPause ∧ (writeSlot k m x s).stations = s.stations ∧
    (writeSlot k m x s).overflow = s.overflow ∧ (writeSlot k m x s).mask = s.mask ∧ (writeSlot k m x s).rx = s.rx ∧
    (writeSlot k m x s).inbound = s.inbound ∧ (writeSlot k m x s).tx = s.tx ∧
    (writeSlot k m x s).counters = s.counters ∧ (writeSlot k m x s).pins = s.pins ∧
    (writeSlot k m x s).choice = s.choice ∧ (writeSlot k m x s).pending = s.pending := by
  unfold writeSlot; try dsimp only
  repeat' split
  all_goals simp

@[simp] theorem enterMask_keeps (s : State) :
    (enterMask s).geo = s.geo ∧ (enterMask s).trk = s.trk ∧ (enterMask s).ring = s.ring ∧
    (enterMask s).serial = s.serial ∧ (enterMask s).loadPause = s.loadPause ∧ (enterMask s).stations = s.stations ∧
    (enterMask s).banks = s.banks ∧ (enterMask s).overflow = s.overflow ∧ (enterMask s).rx = s.rx ∧
    (enterMask s).inbound = s.inbound ∧ (enterMask s).tx = s.tx ∧ (enterMask s).tally = s.tally ∧
    (enterMask s).counters = s.counters ∧ (enterMask s).pins = s.pins ∧ (enterMask s).choice = s.choice ∧
    (enterMask s).pending = s.pending := by
  unfold enterMask; try dsimp only
  repeat' split
  all_goals simp

@[simp] theorem addReason_keeps (a b c : Bool) (s : State) :
    (addReason a b c s).geo = s.geo ∧ (addReason a b c s).trk = s.trk ∧ (addReason a b c s).ring = s.ring ∧
    (addReason a b c s).serial = s.serial ∧ (addReason a b c s).loadPause = s.loadPause ∧
    (addReason a b c s).stations = s.stations ∧ (addReason a b c s).banks = s.banks ∧
    (addReason a b c s).overflow = s.overflow ∧ (addReason a b c s).rx = s.rx ∧
    (addReason a b c s).inbound = s.inbound ∧ (addReason a b c s).tx = s.tx ∧ (addReason a b c s).tally = s.tally ∧
    (addReason a b c s).counters = s.counters ∧ (addReason a b c s).pins = s.pins ∧
    (addReason a b c s).choice = s.choice ∧ (addReason a b c s).pending = s.pending := by
  unfold addReason; try dsimp only
  repeat' split
  all_goals simp

@[simp] theorem motionFault_keeps (w : MotionFault) (s : State) :
    (motionFault w s).geo = s.geo ∧ (motionFault w s).trk = s.trk ∧ (motionFault w s).ring = s.ring ∧
    (motionFault w s).serial = s.serial ∧ (motionFault w s).loadPause = s.loadPause ∧
    (motionFault w s).stations = s.stations ∧ (motionFault w s).banks = s.banks ∧
    (motionFault w s).overflow = s.overflow ∧ (motionFault w s).rx = s.rx ∧ (motionFault w s).inbound = s.inbound ∧
    (motionFault w s).tx = s.tx ∧ (motionFault w s).tally = s.tally ∧ (motionFault w s).counters = s.counters ∧
    (motionFault w s).pins = s.pins ∧ (motionFault w s).choice = s.choice ∧ (motionFault w s).pending = s.pending := by
  unfold motionFault; try dsimp only
  repeat' split
  all_goals simp

@[simp] theorem exitMask_keeps (s : State) :
    (exitMask s).geo = s.geo ∧ (exitMask s).trk = s.trk ∧ (exitMask s).ring = s.ring ∧
    (exitMask s).serial = s.serial ∧ (exitMask s).loadPause = s.loadPause ∧ (exitMask s).stations = s.stations ∧
    (exitMask s).banks = s.banks ∧ (exitMask s).overflow = s.overflow ∧ (exitMask s).rx = s.rx ∧
    (exitMask s).inbound = s.inbound ∧ (exitMask s).tx = s.tx ∧ (exitMask s).tally = s.tally ∧
    (exitMask s).counters = s.counters ∧ (exitMask s).pins = s.pins ∧ (exitMask s).choice = s.choice ∧
    (exitMask s).pending = s.pending := by
  unfold exitMask; try dsimp only
  repeat' split
  all_goals simp

@[simp] theorem cleanRevolution_keeps (s : State) :
    (cleanRevolution s).geo = s.geo ∧ (cleanRevolution s).trk = s.trk ∧ (cleanRevolution s).ring = s.ring ∧
    (cleanRevolution s).serial = s.serial ∧ (cleanRevolution s).loadPause = s.loadPause ∧
    (cleanRevolution s).stations = s.stations ∧ (cleanRevolution s).banks = s.banks ∧
    (cleanRevolution s).overflow = s.overflow ∧ (cleanRevolution s).rx = s.rx ∧
    (cleanRevolution s).inbound = s.inbound ∧ (cleanRevolution s).tx = s.tx ∧ (cleanRevolution s).tally = s.tally ∧
    (cleanRevolution s).counters = s.counters ∧ (cleanRevolution s).pins = s.pins ∧
    (cleanRevolution s).choice = s.choice ∧ (cleanRevolution s).pending = s.pending := by
  unfold cleanRevolution; try dsimp only
  repeat' split
  all_goals simp

@[simp] theorem slip_keeps (load : Nat) (s : State) :
    (slip load s).geo = s.geo ∧ (slip load s).serial = s.serial ∧ (slip load s).loadPause = s.loadPause ∧
    (slip load s).stations = s.stations ∧ (slip load s).overflow = s.overflow ∧ (slip load s).rx = s.rx ∧
    (slip load s).inbound = s.inbound ∧ (slip load s).tx = s.tx ∧ (slip load s).pins = s.pins ∧
    (slip load s).choice = s.choice ∧ (slip load s).pending = s.pending := by
  simp [slip]

@[simp] theorem loadSample_keeps (s : State) :
    (loadSample s).geo = s.geo ∧ (loadSample s).trk = s.trk ∧ (loadSample s).loadPause = s.loadPause ∧
    (loadSample s).stations = s.stations ∧ (loadSample s).lanes = s.lanes ∧ (loadSample s).overflow = s.overflow ∧
    (loadSample s).mask = s.mask ∧ (loadSample s).rx = s.rx ∧ (loadSample s).inbound = s.inbound ∧
    (loadSample s).tx = s.tx ∧ (loadSample s).report = s.report ∧ (loadSample s).events = s.events ∧
    (loadSample s).counters = s.counters ∧ (loadSample s).pins = s.pins ∧ (loadSample s).choice = s.choice ∧
    (loadSample s).pending = s.pending := by
  unfold loadSample; try dsimp only
  repeat' split
  all_goals simp

@[simp] theorem triggerPhase_keeps (e : Option Travel) (m : StationNo) (s : State) :
    (triggerPhase e m s).geo = s.geo ∧ (triggerPhase e m s).trk = s.trk ∧ (triggerPhase e m s).serial = s.serial ∧
    (triggerPhase e m s).loadPause = s.loadPause ∧ (triggerPhase e m s).overflow = s.overflow ∧
    (triggerPhase e m s).mask = s.mask ∧ (triggerPhase e m s).rx = s.rx ∧ (triggerPhase e m s).inbound = s.inbound ∧
    (triggerPhase e m s).tx = s.tx ∧ (triggerPhase e m s).counters = s.counters ∧
    (triggerPhase e m s).pins = s.pins ∧ (triggerPhase e m s).choice = s.choice ∧
    (triggerPhase e m s).pending = s.pending := by
  unfold triggerPhase; try dsimp only
  repeat' split
  all_goals simp

@[simp] theorem firePhase_keeps (e : Option Travel) (l : LaneNo) (s : State) :
    (firePhase e l s).geo = s.geo ∧ (firePhase e l s).trk = s.trk ∧ (firePhase e l s).serial = s.serial ∧
    (firePhase e l s).loadPause = s.loadPause ∧ (firePhase e l s).stations = s.stations ∧
    (firePhase e l s).banks = s.banks ∧ (firePhase e l s).overflow = s.overflow ∧ (firePhase e l s).mask = s.mask ∧
    (firePhase e l s).rx = s.rx ∧ (firePhase e l s).inbound = s.inbound ∧ (firePhase e l s).tx = s.tx ∧
    (firePhase e l s).pins = s.pins ∧ (firePhase e l s).choice = s.choice ∧ (firePhase e l s).pending = s.pending := by
  unfold firePhase; try dsimp only
  repeat' split
  all_goals simp

@[simp] theorem phaseEvent_keeps (e : Option Travel) (s : State) :
    (phaseEvent e s).geo = s.geo ∧ (phaseEvent e s).trk = s.trk ∧ (phaseEvent e s).loadPause = s.loadPause ∧
    (phaseEvent e s).overflow = s.overflow ∧ (phaseEvent e s).mask = s.mask ∧ (phaseEvent e s).rx = s.rx ∧
    (phaseEvent e s).inbound = s.inbound ∧ (phaseEvent e s).tx = s.tx ∧ (phaseEvent e s).pins = s.pins ∧
    (phaseEvent e s).choice = s.choice ∧ (phaseEvent e s).pending = s.pending := by
  have h := foldl_keeps (fun t : State => (t.geo, t.trk, t.loadPause, t.overflow, t.mask, t.rx, t.inbound, t.tx, t.pins, t.choice, t.pending)) (fun t m => triggerPhase e m t) (by simp) allStations (loadSample s)
  have h2 := foldl_keeps (fun t : State => (t.geo, t.trk, t.loadPause, t.overflow, t.mask, t.rx, t.inbound, t.tx, t.pins, t.choice, t.pending)) (fun t l => firePhase e l t) (by simp) allLanes (allStations.foldl (fun t m => triggerPhase e m t) (loadSample s))
  simp_all [phaseEvent]

@[simp] theorem takeDeadline_keeps (m : StationNo) (s : State) :
    (takeDeadline m s).geo = s.geo ∧ (takeDeadline m s).trk = s.trk ∧ (takeDeadline m s).serial = s.serial ∧
    (takeDeadline m s).loadPause = s.loadPause ∧ (takeDeadline m s).overflow = s.overflow ∧
    (takeDeadline m s).mask = s.mask ∧ (takeDeadline m s).rx = s.rx ∧ (takeDeadline m s).inbound = s.inbound ∧
    (takeDeadline m s).tx = s.tx ∧ (takeDeadline m s).counters = s.counters ∧ (takeDeadline m s).pins = s.pins ∧
    (takeDeadline m s).choice = s.choice ∧ (takeDeadline m s).pending = s.pending := by
  unfold takeDeadline; try dsimp only
  repeat' split
  all_goals simp

@[simp] theorem contestedDeadlines_keeps (s : State) :
    (contestedDeadlines s).geo = s.geo ∧ (contestedDeadlines s).trk = s.trk ∧
    (contestedDeadlines s).serial = s.serial ∧ (contestedDeadlines s).loadPause = s.loadPause ∧
    (contestedDeadlines s).overflow = s.overflow ∧ (contestedDeadlines s).mask = s.mask ∧
    (contestedDeadlines s).rx = s.rx ∧ (contestedDeadlines s).inbound = s.inbound ∧
    (contestedDeadlines s).tx = s.tx ∧ (contestedDeadlines s).counters = s.counters ∧
    (contestedDeadlines s).pins = s.pins ∧ (contestedDeadlines s).pending = s.pending := by
  have h := foldl_keeps (fun t : State => (t.geo, t.trk, t.serial, t.loadPause, t.overflow, t.mask, t.rx, t.inbound, t.tx, t.counters, t.pins, t.pending)) (fun u m => takeDeadline m u) (by simp) allStations (s.setChoice (s.choice + 1))
  unfold contestedDeadlines; repeat' split
  all_goals simp_all

@[simp] theorem pitchEvent_keeps (s : State) :
    (pitchEvent s).geo = s.geo ∧ (pitchEvent s).trk = s.trk ∧ (pitchEvent s).serial = s.serial ∧
    (pitchEvent s).loadPause = s.loadPause ∧ (pitchEvent s).overflow = s.overflow ∧ (pitchEvent s).mask = s.mask ∧
    (pitchEvent s).rx = s.rx ∧ (pitchEvent s).inbound = s.inbound ∧ (pitchEvent s).tx = s.tx ∧
    (pitchEvent s).pins = s.pins ∧ (pitchEvent s).pending = s.pending := by
  have h := foldl_keeps (fun t : State => (t.geo, t.trk, t.serial, t.loadPause, t.overflow, t.mask, t.rx, t.inbound, t.tx, t.pins, t.pending)) (fun t l => passCheck l t) (by simp) allLanes (contestedDeadlines s)
  simp_all [pitchEvent]

@[simp] theorem takeTriggerEnd_keeps (m : StationNo) (s : State) :
    (takeTriggerEnd m s).geo = s.geo ∧ (takeTriggerEnd m s).trk = s.trk ∧ (takeTriggerEnd m s).ring = s.ring ∧
    (takeTriggerEnd m s).serial = s.serial ∧ (takeTriggerEnd m s).loadPause = s.loadPause ∧
    (takeTriggerEnd m s).banks = s.banks ∧ (takeTriggerEnd m s).lanes = s.lanes ∧
    (takeTriggerEnd m s).overflow = s.overflow ∧ (takeTriggerEnd m s).mask = s.mask ∧
    (takeTriggerEnd m s).rx = s.rx ∧ (takeTriggerEnd m s).inbound = s.inbound ∧ (takeTriggerEnd m s).tx = s.tx ∧
    (takeTriggerEnd m s).report = s.report ∧ (takeTriggerEnd m s).tally = s.tally ∧
    (takeTriggerEnd m s).events = s.events ∧ (takeTriggerEnd m s).counters = s.counters ∧
    (takeTriggerEnd m s).pins = s.pins ∧ (takeTriggerEnd m s).choice = s.choice ∧
    (takeTriggerEnd m s).pending = s.pending := by
  unfold takeTriggerEnd; try dsimp only
  repeat' split
  all_goals simp

@[simp] theorem takeClose_keeps (l : LaneNo) (s : State) :
    (takeClose l s).geo = s.geo ∧ (takeClose l s).trk = s.trk ∧ (takeClose l s).ring = s.ring ∧
    (takeClose l s).serial = s.serial ∧ (takeClose l s).loadPause = s.loadPause ∧
    (takeClose l s).stations = s.stations ∧ (takeClose l s).banks = s.banks ∧ (takeClose l s).overflow = s.overflow ∧
    (takeClose l s).mask = s.mask ∧ (takeClose l s).rx = s.rx ∧ (takeClose l s).inbound = s.inbound ∧
    (takeClose l s).tx = s.tx ∧ (takeClose l s).report = s.report ∧ (takeClose l s).tally = s.tally ∧
    (takeClose l s).events = s.events ∧ (takeClose l s).counters = s.counters ∧ (takeClose l s).pins = s.pins ∧
    (takeClose l s).choice = s.choice ∧ (takeClose l s).pending = s.pending := by
  unfold takeClose; try dsimp only
  repeat' split
  all_goals simp

@[simp] theorem takeRestPoint_keeps (l : LaneNo) (s : State) :
    (takeRestPoint l s).geo = s.geo ∧ (takeRestPoint l s).trk = s.trk ∧ (takeRestPoint l s).ring = s.ring ∧
    (takeRestPoint l s).serial = s.serial ∧ (takeRestPoint l s).loadPause = s.loadPause ∧
    (takeRestPoint l s).stations = s.stations ∧ (takeRestPoint l s).banks = s.banks ∧
    (takeRestPoint l s).overflow = s.overflow ∧ (takeRestPoint l s).mask = s.mask ∧ (takeRestPoint l s).rx = s.rx ∧
    (takeRestPoint l s).inbound = s.inbound ∧ (takeRestPoint l s).tx = s.tx ∧ (takeRestPoint l s).report = s.report ∧
    (takeRestPoint l s).tally = s.tally ∧ (takeRestPoint l s).events = s.events ∧
    (takeRestPoint l s).counters = s.counters ∧ (takeRestPoint l s).pins = s.pins ∧
    (takeRestPoint l s).choice = s.choice ∧ (takeRestPoint l s).pending = s.pending := by
  unfold takeRestPoint; try dsimp only
  repeat' split
  all_goals simp

@[simp] theorem missRecord_keeps (l : LaneNo) (k : PocketNo) (s : State) :
    (missRecord l k s).geo = s.geo ∧ (missRecord l k s).trk = s.trk ∧ (missRecord l k s).serial = s.serial ∧
    (missRecord l k s).loadPause = s.loadPause ∧ (missRecord l k s).stations = s.stations ∧
    (missRecord l k s).banks = s.banks ∧ (missRecord l k s).overflow = s.overflow ∧
    (missRecord l k s).mask = s.mask ∧ (missRecord l k s).rx = s.rx ∧ (missRecord l k s).inbound = s.inbound ∧
    (missRecord l k s).tx = s.tx ∧ (missRecord l k s).report = s.report ∧ (missRecord l k s).tally = s.tally ∧
    (missRecord l k s).events = s.events ∧ (missRecord l k s).counters = s.counters ∧
    (missRecord l k s).pins = s.pins ∧ (missRecord l k s).choice = s.choice ∧ (missRecord l k s).pending = s.pending := by
  unfold missRecord; try dsimp only
  repeat' split
  all_goals simp

@[simp] theorem takeWindowEnd_keeps (l : LaneNo) (s : State) :
    (takeWindowEnd l s).geo = s.geo ∧ (takeWindowEnd l s).trk = s.trk ∧ (takeWindowEnd l s).serial = s.serial ∧
    (takeWindowEnd l s).loadPause = s.loadPause ∧ (takeWindowEnd l s).stations = s.stations ∧
    (takeWindowEnd l s).banks = s.banks ∧ (takeWindowEnd l s).overflow = s.overflow ∧
    (takeWindowEnd l s).mask = s.mask ∧ (takeWindowEnd l s).rx = s.rx ∧ (takeWindowEnd l s).inbound = s.inbound ∧
    (takeWindowEnd l s).tx = s.tx ∧ (takeWindowEnd l s).tally = s.tally ∧ (takeWindowEnd l s).pins = s.pins ∧
    (takeWindowEnd l s).choice = s.choice ∧ (takeWindowEnd l s).pending = s.pending := by
  unfold takeWindowEnd; try dsimp only
  repeat' split
  all_goals simp

@[simp] theorem takeLanePoints_keeps (l : LaneNo) (s : State) :
    (takeLanePoints l s).geo = s.geo ∧ (takeLanePoints l s).trk = s.trk ∧ (takeLanePoints l s).serial = s.serial ∧
    (takeLanePoints l s).loadPause = s.loadPause ∧ (takeLanePoints l s).stations = s.stations ∧
    (takeLanePoints l s).banks = s.banks ∧ (takeLanePoints l s).overflow = s.overflow ∧
    (takeLanePoints l s).mask = s.mask ∧ (takeLanePoints l s).rx = s.rx ∧ (takeLanePoints l s).inbound = s.inbound ∧
    (takeLanePoints l s).tx = s.tx ∧ (takeLanePoints l s).tally = s.tally ∧ (takeLanePoints l s).pins = s.pins ∧
    (takeLanePoints l s).choice = s.choice ∧ (takeLanePoints l s).pending = s.pending := by
  simp [takeLanePoints]

@[simp] theorem takeTravelPoints_keeps (s : State) :
    (takeTravelPoints s).geo = s.geo ∧ (takeTravelPoints s).trk = s.trk ∧ (takeTravelPoints s).serial = s.serial ∧
    (takeTravelPoints s).loadPause = s.loadPause ∧ (takeTravelPoints s).banks = s.banks ∧
    (takeTravelPoints s).overflow = s.overflow ∧ (takeTravelPoints s).mask = s.mask ∧
    (takeTravelPoints s).rx = s.rx ∧ (takeTravelPoints s).inbound = s.inbound ∧ (takeTravelPoints s).tx = s.tx ∧
    (takeTravelPoints s).tally = s.tally ∧ (takeTravelPoints s).pins = s.pins ∧
    (takeTravelPoints s).choice = s.choice ∧ (takeTravelPoints s).pending = s.pending := by
  have h := foldl_keeps (fun t : State => (t.geo, t.trk, t.serial, t.loadPause, t.banks, t.overflow, t.mask, t.rx, t.inbound, t.tx, t.tally, t.pins, t.choice, t.pending)) (fun t m => takeTriggerEnd m t) (by simp) allStations s
  have h2 := foldl_keeps (fun t : State => (t.geo, t.trk, t.serial, t.loadPause, t.banks, t.overflow, t.mask, t.rx, t.inbound, t.tx, t.tally, t.pins, t.choice, t.pending)) (fun t l => takeLanePoints l t) (by simp) allLanes (allStations.foldl (fun t m => takeTriggerEnd m t) s)
  simp_all [takeTravelPoints]

@[simp] theorem takeMissingIndex_keeps (s : State) :
    (takeMissingIndex s).geo = s.geo ∧ (takeMissingIndex s).serial = s.serial ∧
    (takeMissingIndex s).loadPause = s.loadPause ∧ (takeMissingIndex s).stations = s.stations ∧
    (takeMissingIndex s).overflow = s.overflow ∧ (takeMissingIndex s).rx = s.rx ∧
    (takeMissingIndex s).inbound = s.inbound ∧ (takeMissingIndex s).tx = s.tx ∧ (takeMissingIndex s).pins = s.pins ∧
    (takeMissingIndex s).choice = s.choice ∧ (takeMissingIndex s).pending = s.pending := by
  unfold takeMissingIndex; try dsimp only
  repeat' split
  all_goals simp

@[simp] theorem finishLane_keeps (l : LaneNo) (s : State) :
    (finishLane l s).geo = s.geo ∧ (finishLane l s).trk = s.trk ∧ (finishLane l s).serial = s.serial ∧
    (finishLane l s).loadPause = s.loadPause ∧ (finishLane l s).overflow = s.overflow ∧
    (finishLane l s).mask = s.mask ∧ (finishLane l s).rx = s.rx ∧ (finishLane l s).inbound = s.inbound ∧
    (finishLane l s).tx = s.tx ∧ (finishLane l s).pins = s.pins ∧ (finishLane l s).choice = s.choice ∧
    (finishLane l s).pending = s.pending := by
  simp [finishLane]

@[simp] theorem takePoints_keeps (s : State) :
    (takePoints s).geo = s.geo ∧ (takePoints s).trk = s.trk ∧ (takePoints s).serial = s.serial ∧
    (takePoints s).loadPause = s.loadPause ∧ (takePoints s).overflow = s.overflow ∧ (takePoints s).mask = s.mask ∧
    (takePoints s).rx = s.rx ∧ (takePoints s).inbound = s.inbound ∧ (takePoints s).tx = s.tx ∧
    (takePoints s).pins = s.pins ∧ (takePoints s).choice = s.choice ∧ (takePoints s).pending = s.pending := by
  have h1 := foldl_keeps (fun t : State => (t.geo, t.trk, t.serial, t.loadPause, t.overflow, t.mask, t.rx, t.inbound, t.tx, t.pins, t.choice, t.pending))
    (fun t m => takeDeadline m (opened t)) (by simp) allStations s
  have h2 := fun t => foldl_keeps (fun t : State => (t.geo, t.trk, t.serial, t.loadPause, t.overflow, t.mask, t.rx, t.inbound, t.tx, t.pins, t.choice, t.pending))
    (fun t m => takeTriggerEnd m t) (by simp) allStations t
  have h3 := fun t => foldl_keeps (fun t : State => (t.geo, t.trk, t.serial, t.loadPause, t.overflow, t.mask, t.rx, t.inbound, t.tx, t.pins, t.choice, t.pending))
    (fun t l => finishLane l t) (by simp) allLanes t
  simp_all [takePoints]

@[simp] theorem settled_keeps (s : State) :
    (settled s).geo = s.geo ∧ (settled s).serial = s.serial ∧ (settled s).loadPause = s.loadPause ∧
    (settled s).overflow = s.overflow ∧ (settled s).rx = s.rx ∧ (settled s).inbound = s.inbound ∧
    (settled s).tx = s.tx ∧ (settled s).pins = s.pins ∧ (settled s).choice = s.choice ∧
    (settled s).pending = s.pending := by
  simp [settled]

@[simp] theorem advance_keeps (e : Option Travel) (s : State) :
    (advance e s).geo = s.geo ∧ (advance e s).loadPause = s.loadPause ∧ (advance e s).overflow = s.overflow ∧
    (advance e s).mask = s.mask ∧ (advance e s).rx = s.rx ∧ (advance e s).inbound = s.inbound ∧
    (advance e s).tx = s.tx ∧ (advance e s).pins = s.pins ∧ (advance e s).pending = s.pending := by
  unfold advance; try dsimp only
  repeat' split
  all_goals simp

@[simp] theorem announceIdle_keeps (b : Bool) (s : State) :
    (announceIdle b s).geo = s.geo ∧ (announceIdle b s).serial = s.serial ∧
    (announceIdle b s).overflow = s.overflow ∧ (announceIdle b s).rx = s.rx ∧
    (announceIdle b s).inbound = s.inbound ∧ (announceIdle b s).tx = s.tx ∧ (announceIdle b s).pins = s.pins ∧
    (announceIdle b s).choice = s.choice ∧ (announceIdle b s).pending = s.pending := by
  simp [announceIdle]

@[simp] theorem advanceSpan_keeps (e : Travel) (n : Nat) (s : State) :
    (advanceSpan e n s).geo = s.geo ∧ (advanceSpan e n s).loadPause = s.loadPause ∧
    (advanceSpan e n s).overflow = s.overflow ∧ (advanceSpan e n s).mask = s.mask ∧ (advanceSpan e n s).rx = s.rx ∧
    (advanceSpan e n s).inbound = s.inbound ∧ (advanceSpan e n s).tx = s.tx ∧ (advanceSpan e n s).pins = s.pins ∧
    (advanceSpan e n s).pending = s.pending := by
  induction n generalizing s with
  | zero => simp [advanceSpan]
  | succ n ih => simp [advanceSpan, ih]

end Sys2Proof.Machine
end

