-- ==== Sys2Proof/Laws/Ops.lean ====
section
/-!
SUPPORT. What the shared operations do, said once: reading back one element of a bank of like things, the saturating
counts, flags and reports, and the operations that leave a state alone when there is nothing for them to do.
-/

namespace Sys2Proof.Machine

/-! ## One element of a bank of like things -/

theorem modLane_at (l j : LaneNo) (g : Lane → Lane) (s : State) :
    (modLane l g s).lanes[j.val] = if j = l then g s.lanes[l.val] else s.lanes[j.val] := by
  by_cases h : j = l
  · subst h; simp [modLane]
  · have : l.val ≠ j.val := fun e => h (Fin.ext e.symm)
    simp [h, modLane, Vector.getElem_set_ne _ _ this]

@[simp] theorem modLane_same (l : LaneNo) (g : Lane → Lane) (s : State) :
    (modLane l g s).lanes[l.val] = g s.lanes[l.val] := by
  simp [modLane_at]

@[simp] theorem mapLanes_at (g : Lane → Lane) (s : State) (l : LaneNo) :
    (mapLanes g s).lanes[l.val] = g s.lanes[l.val] := by
  simp [mapLanes]

theorem modStation_at (m j : StationNo) (g : Station → Station) (s : State) :
    (modStation m g s).stations[j.val] = if j = m then g s.stations[m.val] else s.stations[j.val] := by
  by_cases h : j = m
  · subst h; simp [modStation]
  · have : m.val ≠ j.val := fun e => h (Fin.ext e.symm)
    simp [h, modStation, Vector.getElem_set_ne _ _ this]

@[simp] theorem modStation_same (m : StationNo) (g : Station → Station) (s : State) :
    (modStation m g s).stations[m.val] = g s.stations[m.val] := by
  simp [modStation_at]

theorem setRecord_at (k j : PocketNo) (r : Option Part) (s : State) :
    (setRecord k r s).ring[j.val] = if j = k then r else s.ring[j.val] := by
  by_cases h : j = k
  · subst h; simp [setRecord]
  · have : k.val ≠ j.val := fun e => h (Fin.ext e.symm)
    simp [h, setRecord, Vector.getElem_set_ne _ _ this]

@[simp] theorem setRecord_same (k : PocketNo) (r : Option Part) (s : State) : (setRecord k r s).ring[k.val] = r := by
  simp [setRecord_at]

theorem modBank_at (id j : BankId) (g : Bank → Bank) (s : State) :
    bankAt (modBank id g s).banks j = if j = id then g (bankAt s.banks id) else bankAt s.banks j := by
  cases id <;> cases j <;> rfl

@[simp] theorem modBank_selectors (id : BankId) (g : Bank → Bank) (s : State) :
    (modBank id g s).banks.live = s.banks.live ∧ (modBank id g s).banks.generation = s.banks.generation ∧
      (modBank id g s).banks.lock = s.banks.lock := by
  cases id <;> exact ⟨rfl, rfl, rfl⟩

theorem tallyCount_at (i j : Fin 49) (s : State) :
    (tallyCount i s).tally[j.val] = if j = i then satInc 4294967295 s.tally[i.val] else s.tally[j.val] := by
  by_cases h : j = i
  · subst h; simp [tallyCount]
  · have : i.val ≠ j.val := fun e => h (Fin.ext e.symm)
    simp [h, tallyCount, Vector.getElem_set_ne _ _ this]

/-! ## Counting -/

theorem satInc_oneMore (n : Nat) : satInc 65535 n = oneMore n := rfl

theorem satInc_le {top n : Nat} (h : n ≤ top) : satInc top n ≤ top := by
  unfold satInc; split <;> omega

/-! ## Flags and reports -/

theorem flagSet_eq (fl : Flag) : flagSet fl = BitVec.twoPow 14 (flagBit fl) := by cases fl <;> decide

/-- A flag is clear where its bit is. -/
theorem and_flagSet (x : BitVec 14) (fl : Flag) : x &&& flagSet fl = 0 ↔ x.getLsbD (flagBit fl) = false := by
  have hb : flagBit fl < 14 := by cases fl <;> decide
  rw [flagSet_eq, BitVec.and_twoPow]
  cases h : x.getLsbD (flagBit fl)
  · simp
  · simp only [if_true, reduceCtorEq, iff_false]
    intro e
    have := congrArg (fun y => BitVec.getLsbD y (flagBit fl)) e
    simp [hb] at this

theorem raise_set {fl : Flag} {s : State} (h : s.events.flags.getLsbD (flagBit fl) = true) : raise fl s = s :=
  if_neg fun e => by simp [(and_flagSet _ _).1 e] at h

theorem raise_clear {fl : Flag} {s : State} (h : s.events.flags.getLsbD (flagBit fl) = false) :
    raise fl s =
      if s.events.enables.getLsbD (flagBit fl) = false then
        s.setEvents { s.events with flags := s.events.flags ||| flagSet fl }
      else offerNotice (s.setEvents { s.events with flags := s.events.flags ||| flagSet fl }) := by
  simp only [← and_flagSet] at h ⊢
  exact if_pos h

theorem offerNotice_flags (s : State) : (offerNotice s).events.flags = s.events.flags := by
  unfold offerNotice enqueue
  repeat' split
  all_goals rfl

/-- A raised flag is set afterwards, and no other flag changes. -/
theorem raise_flags (fl : Flag) (s : State) : (raise fl s).events.flags = s.events.flags ||| flagSet fl := by
  cases h : s.events.flags.getLsbD (flagBit fl)
  · rw [raise_clear h]
    split
    · rfl
    · rw [offerNotice_flags]; rfl
  · rw [raise_set h, flagSet_eq]
    apply BitVec.eq_of_getLsbD_eq
    intro i hi
    rw [BitVec.getLsbD_or, BitVec.getLsbD_twoPow]
    by_cases e : flagBit fl = i
    · subst e; simp [h]
    · simp [e]

/-! ## The place kept for a REPLY -/

@[simp] theorem keepPlace_report (s : State) : (keepPlace s).report = { s.report with replyPlace := true } := rfl

@[simp] theorem dropHead_inbound (s : State) : (dropHead s).inbound = s.inbound.tail := rfl

/-! ## Operations with nothing to do -/

theorem foldl_idle {α σ : Type} (g : σ → α → σ) (s : σ) (xs : List α) (h : ∀ x ∈ xs, g s x = s) :
    xs.foldl g s = s := by
  induction xs with
  | nil => rfl
  | cons x xs ih =>
    rw [List.foldl_cons, h x (by simp)]
    exact ih fun y hy => h y (by simp [hy])

theorem takeDeadline_idle {m : StationNo} {s : State} (h : deadlineDue s m = false) : takeDeadline m s = s := by
  unfold takeDeadline
  unfold deadlineDue at h
  split
  · rfl
  · next k hk =>
    rw [hk] at h
    split
    · rfl
    · next p hp =>
      simp only [hp] at h
      split
      · next ha =>
        simp only [ha, beq_self_eq_true, Bool.true_and] at h
        split
        · next q hq => simp [hq, isResolved] at h
        · next hq => simp [hq, isResolved] at h
        · rfl
      · rfl

theorem takeTriggerEnd_idle {m : StationNo} {s : State}
    (h : isTracking s = true → s.stations[m.val].pulseEnd ≠ some s.trk.travel) : takeTriggerEnd m s = s :=
  if_neg fun hc => h hc.1 hc.2

theorem takeClose_idle {l : LaneNo} {s : State}
    (h : ∀ run, s.lanes[l.val].output = .active run → isTracking s = true → run.closeAt ≠ s.trk.travel) :
    takeClose l s = s := by
  unfold takeClose; split
  · next run hr => exact if_neg fun hc => h run hr hc.1 hc.2
  · rfl

theorem takeWindowEnd_idle {l : LaneNo} {s : State}
    (h : ∀ e rest, s.lanes[l.val].queue = e :: rest → isTracking s = true → e.windowEnd ≠ s.trk.travel) :
    takeWindowEnd l s = s := by
  unfold takeWindowEnd; split
  · rfl
  · next e rest hq => exact if_neg fun hc => h e rest hq hc.1 hc.2

theorem takeRestPoint_idle {l : LaneNo} {s : State}
    (h : ∀ mark, s.lanes[l.val].output = .inactive (.since mark) → isTracking s = true →
      mark + BitVec.ofNat 32 s.lanes[l.val].setup.restDist ≠ s.trk.travel) : takeRestPoint l s = s := by
  unfold takeRestPoint; split
  · next mark hm => exact if_neg fun hc => h mark hm hc.1 hc.2
  · rfl

/-! ## The beginning of an event -/

@[simp] theorem opened_noticePlace (s : State) : (opened s).report.noticePlace = false := by
  unfold opened admitHanded; cases h : s.report.noticePlace <;> simp [h]

/-- The admission of a handed notice leaves the fill as it is. -/
@[simp] theorem opened_fill (s : State) : fill (opened s) = fill s := by
  unfold opened admitHanded fill; cases h : s.report.noticePlace <;> simp [h]; omega

theorem opened_replyPlace (s : State) : (opened s).report.replyPlace = s.report.replyPlace := by
  unfold opened admitHanded; cases h : s.report.noticePlace <;> simp [h]

/-- The processor is stalled at the beginning of an event where a frame waits for a place at a fill of 32. -/
theorem opened_stalled (s : State) : (opened s).report.stalled = stalled s := by
  have h1 := opened_fill s
  have h2 := opened_replyPlace s
  have e : (opened s).report.stalled = stalled (opened s) := rfl
  rw [e]; simp [stalled, headNeedsPlace, h1, h2]

/-- An event begins once. -/
@[simp] theorem opened_opened (s : State) : opened (opened s) = opened s := by
  have h : admitHanded (opened s) = opened s := by simp [admitHanded]
  have e (t : State) (ht : admitHanded t = t) (hm : stalled t = t.report.stalled) : opened t = t := by
    unfold opened; rw [ht]; simp only [hm]; rfl
  exact e _ h rfl

/-- An event begins with nothing to do where no notice has been handed a place and the stall mark is right. -/
theorem opened_idle {s : State} (hp : s.report.noticePlace = false) (hs : s.report.stalled = stalled s) :
    opened s = s := by
  have h : admitHanded s = s := by simp [admitHanded, hp]
  unfold opened; rw [h]; simp only [← hs]; rfl

/-! ## Nothing due -/

/-- With nothing due, the points leave a state at the beginning of an event alone. -/
theorem takePoints_idle {s : State} (h : nothingDue s = true) (ho : opened s = s) : takePoints s = s := by
  unfold nothingDue at h
  have due : isTracking s = true →
      (∀ m ∈ allStations, deadlineDue s m = false ∧ s.stations[m.val].pulseEnd ≠ some s.trk.travel) ∧
      ∀ l ∈ allLanes,
        (match s.lanes[l.val].output with
          | .active run => run.closeAt ≠ s.trk.travel
          | .inactive (.since mark) => mark + BitVec.ofNat 32 s.lanes[l.val].setup.restDist ≠ s.trk.travel
          | .inactive _ => True) ∧
        (match s.lanes[l.val].queue with
          | [] => True
          | e :: _ => e.windowEnd ≠ s.trk.travel) := fun ht => by
    simp only [ht, Bool.not_true, Bool.false_or, Bool.and_eq_true, Bool.not_eq_true', List.all_eq_true, bne_iff_ne,
      ne_eq] at h
    refine ⟨h.1.2, fun l hl => ⟨?_, ?_⟩⟩
    · have := (h.2 l hl).1; split <;> simp_all
    · have := (h.2 l hl).2; split <;> simp_all
  have e1 : allStations.foldl (fun t m => takeDeadline m (opened t)) s = s :=
    foldl_idle _ _ _ fun m hm => by
      rw [ho]
      cases ht : isTracking s
      · simp [takeDeadline, deadlinePocket, ht]
      · exact takeDeadline_idle ((due ht).1 m hm).1
  have e2 : allStations.foldl (fun t m => takeTriggerEnd m t) s = s :=
    foldl_idle _ _ _ fun m hm => takeTriggerEnd_idle fun ht => ((due ht).1 m hm).2
  have e3 : allLanes.foldl (fun t l => finishLane l t) s = s :=
    foldl_idle _ _ _ fun l hl => by
      have c1 : takeClose l s = s := takeClose_idle fun run hr ht => by
        have := (due ht).2 l hl; simp only [hr] at this; exact this.1
      have c2 : takeWindowEnd l s = s := takeWindowEnd_idle fun e rest hq ht => by
        have := (due ht).2 l hl; simp only [hq] at this; exact this.2
      have c3 : takeRestPoint l s = s := takeRestPoint_idle fun mark hm ht => by
        have := (due ht).2 l hl; simp only [hm] at this; exact this.1
      unfold finishLane; rw [c1, ho, c2, c3]
  unfold takePoints
  simp only [e1, e2, e3]

/-- A state at the beginning of an event, with nothing due, is settled. -/
theorem settled_idle {s : State} (h : nothingDue s = true) (ho : opened s = s) : settled s = s := by
  unfold settled
  rw [takePoints_idle h ho, takeMissingIndex, if_neg, ho]
  unfold nothingDue at h
  cases ht : isTracking s
  · simp [missingIndexDue, ht]
  · simp only [ht, Bool.not_true, Bool.false_or, Bool.and_eq_true, Bool.not_eq_true'] at h
    simp [h.1.1]

end Sys2Proof.Machine
end

