-- ==== Sys2Proof/Laws/Fields.lean ====
section
/-!
SUPPORT. The field decoders against the encodings of R221 and the ranges of the field tables: a decoder answers exactly
what the encoding assigns.
-/

namespace Sys2Proof.Machine

theorem byte_eq (c : Byte) (n : Nat) (h : n < 256) : c = BitVec.ofNat 8 n ↔ c.toNat = n := by
  constructor
  · rintro rfl; simp; omega
  · intro e; apply BitVec.eq_of_toNat_eq; simp [e]; omega

/-- The low byte of w1 as the value a statement names. -/
theorem firstArg_eq {f : Frame} {n : Nat} (hn : n < 256) (h : (loByte (word f 1)).toNat = n) :
    firstArg f = BitVec.ofNat 8 n := (byte_eq _ _ hn).2 h

theorem laneOf_eq_some (c : Byte) (l : LaneNo) : laneOf c = some l ↔ c.toNat = l.val := by
  unfold laneOf
  split
  · simp [Fin.ext_iff]
  · simp only [reduceCtorEq, false_iff]; omega

theorem laneOf_eq_none (c : Byte) : laneOf c = none ↔ 16 ≤ c.toNat := by
  unfold laneOf
  split
  · simp only [reduceCtorEq, false_iff]; omega
  · simp only [true_iff]; omega

theorem stationOf_eq_some (c : Byte) (m : StationNo) : stationOf c = some m ↔ c.toNat = m.val := by
  unfold stationOf
  split
  · simp [Fin.ext_iff]
  · simp only [reduceCtorEq, false_iff]; omega

theorem stationOf_eq_none (c : Byte) : stationOf c = none ↔ 4 ≤ c.toNat := by
  unfold stationOf
  split
  · simp only [reduceCtorEq, false_iff]; omega
  · simp only [true_iff]; omega

theorem routeOf_eq_some (c : Byte) (r : Route) : routeOf c = some r ↔ RouteCode c r := by
  unfold routeOf
  cases h : laneOf c with
  | some l =>
    rw [laneOf_eq_some] at h
    cases r with
    | none => simp [RouteCode]; omega
    | some q => simp [RouteCode, Fin.ext_iff]; omega
  | none =>
    rw [laneOf_eq_none] at h
    have e : (c = 0xFF) ↔ c.toNat = 255 := byte_eq c 255 (by decide)
    cases r with
    | none => simp [RouteCode, ← e]
    | some q =>
      have : c.toNat ≠ q.val := by omega
      simp [RouteCode, this]

theorem roleOf_eq_some (c : Byte) (r : Role) : roleOf c = some r ↔ RoleCode c r := by
  revert c; cases r <;> decide

theorem edgeModeOf_eq_some (c : Byte) (m : EdgeMode) : edgeModeOf c = some m ↔ EdgeModeCode c m := by
  revert c; cases m <;> decide

theorem laneAttrOf_eq_some (c : Byte) (a : LaneAttr) : laneAttrOf c = some a ↔ AttrCode c a := by
  revert c; cases a <;> decide

theorem overflowActionOf_eq_some (c : Byte) (a : OverflowAction) : overflowActionOf c = some a ↔ ActionCode c a := by
  revert c; cases a <;> decide

theorem specialClassOf_eq_some (c : Byte) (k : SpecialClass) : specialClassOf c = some k ↔ SpecialCode c k := by
  revert c; cases k <;> decide

theorem contactStatusOf_eq_some (c : Byte) (k : ContactStatus) : contactStatusOf c = some k ↔ ContactCode c k := by
  revert c; cases k <;> decide

/-- No option at all where none of the encoding's values fits. -/
theorem eq_none_of_forall {α : Type} {o : Option α} {P : α → Prop} (h : ∀ a, o = some a ↔ P a) (hn : ∀ a, ¬ P a) :
    o = none := by
  cases o with
  | none => rfl
  | some a => exact absurd ((h a).1 rfl) (hn a)

/-! ## Whole frames -/

theorem geometryFields_eq_some (f : Frame) (g : Geometry) :
    geometryFields f = some g ↔ ∃ mode, GeometryAllowed f mode ∧ g = carriedGeometry f mode := by
  unfold geometryFields GeometryAllowed
  simp only [← edgeModeOf_eq_some]
  constructor
  · intro h
    split at h
    · next hc =>
      obtain ⟨mode, hm, hg⟩ := Option.map_eq_some_iff.1 h
      exact ⟨mode, ⟨⟨hc.1, hc.2.1⟩, ⟨hc.2.2.1, hc.2.2.2.1⟩, hc.2.2.2.2, hm⟩, hg.symm⟩
    · cases h
  · rintro ⟨mode, ⟨⟨h1, h2⟩, ⟨h3, h4⟩, h5, h6⟩, rfl⟩
    simp only [carriedGeometry] at h1 h2 h3 h4 h5
    rw [if_pos ⟨h1, h2, h3, h4, h5⟩, h6]; rfl

theorem setupFields_eq_some (f : Frame) (x : LaneNo × LaneSetup) :
    setupFields f = some x ↔ ∃ partner, LaneSetupAllowed f x.1 partner ∧ x.2 = carriedSetup f partner := by
  have hb : (loByte (word f 9)).extractLsb' 4 4 = 0 ↔ (loByte (word f 9)).toNat < 16 := by
    generalize loByte (word f 9) = c; revert c; decide
  have hbit : ∀ i, i < 8 → (loByte (word f 9)).getLsbD i = (word f 9).getLsbD i := by
    intro i hi; simp [loByte, hi]
  unfold setupFields LaneSetupAllowed
  simp only [← routeOf_eq_some, ← laneOf_eq_some, hbit 0 (by decide), hbit 1 (by decide), hbit 2 (by decide),
    hbit 3 (by decide), carriedSetup]
  constructor
  · intro h
    split at h
    · next l p hl hp =>
      split at h
      · next hc =>
        obtain rfl := Option.some.inj h
        exact ⟨p, ⟨hl, hp, ⟨hc.1, hc.2.1⟩, hc.2.2.1, ⟨hc.2.2.2.1, hc.2.2.2.2.1⟩, hc.2.2.2.2.2.1, hc.2.2.2.2.2.2.1,
          ⟨hc.2.2.2.2.2.2.2.1, hc.2.2.2.2.2.2.2.2.1⟩, hb.1 hc.2.2.2.2.2.2.2.2.2⟩, rfl⟩
      · cases h
    · cases h
  · rintro ⟨p, ⟨h1, h2, ⟨h3, h4⟩, h5, ⟨h6, h7⟩, h8, h9, ⟨h10, h11⟩, h12⟩, h13⟩
    simp only [show laneOf (firstArg f) = some x.1 from h1, h2]
    rw [if_pos ⟨h3, h4, h5, h6, h7, h8, h9, h10, h11, hb.2 h12⟩, ← h13]

theorem headerTable_eq_some (f : Frame) (t : Table) :
    headerTable f = some t ↔ HeaderAllowed f ∧ t = carriedTable f := by
  have hr : (loByte (word f 2)).extractLsb' 0 3 = (word f 2).setWidth 3 := by
    apply BitVec.eq_of_getLsbD_eq; intro i hi; simp [loByte, hi]
  unfold headerTable HeaderAllowed
  simp only [hr]
  constructor
  · intro h
    split at h
    · next hc =>
      obtain rfl := Option.some.inj h
      obtain ⟨h1, h2, h3, h4, h5, h6, h7, h8, h9⟩ := hc
      exact ⟨⟨⟨h1, h2⟩, h3, ⟨h4, h5⟩, h6, h7, h8, h9⟩, rfl⟩
    · cases h
  · rintro ⟨⟨⟨h1, h2⟩, h3, ⟨h4, h5⟩, h6, h7, h8, h9⟩, rfl⟩
    rw [if_pos ⟨h1, h2, h3, h4, h5, h6, h7, h8, h9⟩]; rfl

theorem entryFields_eq_some (f : Frame) (x : Fin 24 × BinEntry) :
    entryFields f = some x ↔ ∃ r, EntryAllowed f x.1 r ∧
      x.2 = { lo := (dword f 2).toInt, hi := (dword f 4).toInt, route := r } := by
  unfold entryFields EntryAllowed
  simp only [← routeOf_eq_some]
  obtain ⟨i, e⟩ := x
  constructor
  · intro h
    split at h
    · next hi =>
      split at h
      · next hc =>
        obtain ⟨r, hr, hx⟩ := Option.map_eq_some_iff.1 h
        obtain ⟨rfl, rfl⟩ := Prod.mk.inj hx
        obtain ⟨h1, h2, h3, h4, h5⟩ := hc
        exact ⟨r, ⟨rfl, ⟨h1, h2⟩, ⟨h3, h4⟩, h5, hr⟩, rfl⟩
      · cases h
    · cases h
  · rintro ⟨r, ⟨h0, ⟨h1, h2⟩, ⟨h3, h4⟩, h5, h6⟩, h7⟩
    have h0 : (firstArg f).toNat = i.val := h0
    have hlt : (firstArg f).toNat < 24 := by omega
    simp only at h7
    rw [dif_pos hlt, if_pos ⟨h1, h2, h3, h4, h5⟩, h6, h7]
    simp [h0]

theorem specialFields_eq_some (f : Frame) (x : SpecialClass × Route) :
    specialFields f = some x ↔ SpecialAllowed f x.1 x.2 := by
  unfold specialFields SpecialAllowed
  simp only [← routeOf_eq_some, ← specialClassOf_eq_some, firstArg]
  obtain ⟨c, r⟩ := x
  cases specialClassOf (loByte (word f 1)) <;> cases routeOf (loByte (word f 2)) <;> simp

theorem laneOrderOf_eq_some (f : Frame) (o : LaneOrder) :
    laneOrderOf f = some o ↔ (loByte (word f 1)).toNat = o.lane.val ∧ AttrCode (hiByte (word f 2)) o.attr ∧
      ActionCode (loByte (word f 2)) o.action ∧ o.capacity = (word f 3).toNat := by
  unfold laneOrderOf
  simp only [← laneOf_eq_some, ← laneAttrOf_eq_some, ← overflowActionOf_eq_some, firstArg]
  obtain ⟨l, a, c, n⟩ := o
  cases laneOf (loByte (word f 1)) <;> cases laneAttrOf (hiByte (word f 2)) <;>
    cases overflowActionOf (loByte (word f 2)) <;> simp [eq_comm]

theorem flagSetOf_eq (w : Word16) : flagSetOf w = if w.toNat < 16384 then some (w.setWidth 14) else none := by
  have h : w.extractLsb' 14 2 = 0 ↔ w.toNat < 16384 := by
    rw [← BitVec.toNat_inj]
    simp [BitVec.extractLsb'_toNat, Nat.shiftRight_eq_div_pow]
    have := w.isLt
    omega
  unfold flagSetOf
  simp only [h]
  split
  · congr 1
  · rfl

theorem fitCapacity_written (asked sum : Nat) : CapacityWritten asked sum (fitCapacity asked sum) := by
  unfold CapacityWritten fitCapacity
  refine ⟨fun h => ?_, fun h1 h2 => ?_, fun h1 h2 h3 => ?_, fun h1 h2 h3 => ?_⟩
  · simp [h]
  · simp [h2]
  · rw [if_neg (by omega), if_pos h3]
  · rw [if_neg (by omega), if_neg (by omega)]

theorem capacityWritten_unique {asked sum a b : Nat} (ha : CapacityWritten asked sum a) (hb : CapacityWritten asked sum b) :
    a = b := by
  unfold CapacityWritten at ha hb
  by_cases h0 : asked = 0
  · rw [ha.1 h0, hb.1 h0]
  · by_cases h1 : sum ≤ asked
    · rw [ha.2.1 (by omega) h1, hb.2.1 (by omega) h1]
    · by_cases h2 : sum ≤ 65535
      · rw [ha.2.2.1 (by omega) (by omega) h2, hb.2.2.1 (by omega) (by omega) h2]
      · rw [ha.2.2.2 (by omega) (by omega) (by omega), hb.2.2.2 (by omega) (by omega) (by omega)]

end Sys2Proof.Machine
end

