-- ==== Sys2Proof/Laws/PerInstr.lean ====
section
/-!
SUPPORT. One lemma per command about the frames it executes: a command that executes frames of a kind other than FILLER
executes frames of 3 to 12 words, a length that the receiver lets through (R179, R220).
-/

namespace Sys2Proof.Laws.FrameKind

open Sys2Proof.Machine

/-- The frames that a command executes have a required length of 3 to 12 words, FILLER apart. -/
def Statement (i : Instr) : Prop :=
  ∀ k, i.frameKind = some k → k ≠ .filler → ∃ n, kindLength k = some n ∧ 3 ≤ n ∧ n ≤ 12

/-- A command that executes no frame. -/
theorem of_none {i : Instr} (h : i.frameKind = none) : Statement i := fun k hk => by simp [h] at hk

/-- A command of a kind with a required length. -/
theorem of_kind {i : Instr} {k : Kind} {n : Nat} (h : i.frameKind = some k) (hn : kindLength k = some n)
    (h3 : 3 ≤ n) (h12 : n ≤ 12) : Statement i := fun k' hk' _ => by
  obtain rfl : k = k' := by simpa [h] using hk'
  exact ⟨n, hn, h3, h12⟩

theorem encoderCount (a b x : Bool) : Statement (.encoderCount a b x) := of_none rfl
theorem indexEvent (x : Bool) : Statement (.indexEvent x) := of_none rfl
theorem slipMissingIndex : Statement .slipMissingIndex := of_none rfl
theorem triggerEnd (m : StationNo) : Statement (.triggerEnd m) := of_none rfl
theorem deadlineExpiry (m : StationNo) : Statement (.deadlineExpiry m) := of_none rfl
theorem runClose (l : LaneNo) : Statement (.runClose l) := of_none rfl
theorem restPoint (l : LaneNo) : Statement (.restPoint l) := of_none rfl
theorem windowEnd (l : LaneNo) : Statement (.windowEnd l) := of_none rfl
theorem drop (l : LaneNo) : Statement (.drop l) := of_none rfl
theorem pendingNoticeAdmit : Statement .pendingNoticeAdmit := of_none rfl
theorem frameStart : Statement .frameStart := of_none rfl
theorem headerReceived : Statement .headerReceived := of_none rfl
theorem mfsDeassert : Statement .mfsDeassert := of_none rfl
theorem frameComplete : Statement .frameComplete := of_none rfl
theorem filler : Statement .filler := fun _ hk hf => absurd (Option.some.inj hk).symm hf
theorem result : Statement .result := of_kind rfl rfl (by decide) (by decide)
theorem temp : Statement .temp := of_kind rfl rfl (by decide) (by decide)
theorem bankHeader : Statement .bankHeader := of_kind rfl rfl (by decide) (by decide)
theorem binEntry : Statement .binEntry := of_kind rfl rfl (by decide) (by decide)
theorem specialRoute : Statement .specialRoute := of_kind rfl rfl (by decide) (by decide)
theorem bankSwap : Statement .bankSwap := of_kind rfl rfl (by decide) (by decide)
theorem geometry : Statement .geometry := of_kind rfl rfl (by decide) (by decide)
theorem station : Statement .station := of_kind rfl rfl (by decide) (by decide)
theorem laneSetup : Statement .laneSetup := of_kind rfl rfl (by decide) (by decide)
theorem laneState : Statement .laneState := of_kind rfl rfl (by decide) (by decide)
theorem laneEmpty : Statement .laneEmpty := of_kind rfl rfl (by decide) (by decide)
theorem start : Statement .start := of_kind rfl rfl (by decide) (by decide)
theorem stop : Statement .stop := of_kind rfl rfl (by decide) (by decide)
theorem pauseLoad : Statement .pauseLoad := of_kind rfl rfl (by decide) (by decide)
theorem resumeLoad : Statement .resumeLoad := of_kind rfl rfl (by decide) (by decide)
theorem runReset : Statement .runReset := of_kind rfl rfl (by decide) (by decide)
theorem force : Statement .force := of_kind rfl rfl (by decide) (by decide)
theorem recover : Statement .recover := of_kind rfl rfl (by decide) (by decide)
theorem mode : Statement .mode := of_kind rfl rfl (by decide) (by decide)
theorem enable : Statement .enable := of_kind rfl rfl (by decide) (by decide)
theorem clear : Statement .clear := of_kind rfl rfl (by decide) (by decide)
theorem tallyClear : Statement .tallyClear := of_kind rfl rfl (by decide) (by decide)
theorem lock : Statement .lock := of_kind rfl rfl (by decide) (by decide)
theorem formatSelect : Statement .formatSelect := of_kind rfl rfl (by decide) (by decide)
theorem queryStatus : Statement .queryStatus := of_kind rfl rfl (by decide) (by decide)
theorem queryPocket : Statement .queryPocket := of_kind rfl rfl (by decide) (by decide)
theorem queryBankEntry : Statement .queryBankEntry := of_kind rfl rfl (by decide) (by decide)
theorem queryLane : Statement .queryLane := of_kind rfl rfl (by decide) (by decide)
theorem queryTally : Statement .queryTally := of_kind rfl rfl (by decide) (by decide)
theorem queryCounters : Statement .queryCounters := of_kind rfl rfl (by decide) (by decide)
theorem unknownKind : Statement .unknownKind := of_none rfl
theorem transmitStart (x : Bool) : Statement (.transmitStart x) := of_none rfl
theorem rholdAssert : Statement .rholdAssert := of_none rfl
theorem transmitComplete : Statement .transmitComplete := of_none rfl
theorem fullReset (a b x : Bool) : Statement (.fullReset a b x) := of_none rfl
theorem mclkRisingEdge (x : Bool) : Statement (.mclkRisingEdge x) := of_none rfl

end Sys2Proof.Laws.FrameKind
end

