-- ==== Sys2Proof/Laws/Replies.lean ====
section
/-!
SUPPORT. What taking up a head frame does, said once: the command's act between the keeping of the REPLY's place and the
placing of the REPLY.
-/

namespace Sys2Proof.Machine

/-- The frame leaves the queue and its REPLY is placed: the one closed form of both. -/
theorem placeReply_dropHead (f : Frame) (a : Answer) (t : State) : placeReply f a (dropHead t) = replied f a t := rfl

/-- The place kept for a REPLY does not outlast it. -/
theorem replied_keepPlace (f : Frame) (a : Answer) (s : State) : replied f a (keepPlace s) = replied f a s := rfl

theorem placeForReply_of_canBegin {s : State} (h : CanBegin s) : placeForReply s = true := by
  rcases h with h | h <;> simp [placeForReply, Config.reportPlaces, h]

theorem lengthFits_of_headOf {k : Kind} {f : Frame} {s : State} (h : HeadOf k f s) : lengthFits k f = true := by
  simpa [lengthFits] using h.2.2

/-- A command takes up a frame of its kind, with the required length and a first argument that it handles. -/
theorem takeUp_of_headOf {k : Kind} {mine : Byte → Bool} {act : Frame → State → State × Answer} {f : Frame} {s : State}
    (h : HeadOf k f s) (hm : mine (firstArg f) = true) (hp : CanBegin s) :
    takeUp k mine act s = replied f (act f (keepPlace s)).2 (act f (keepPlace s)).1 := by
  obtain ⟨rest, hs⟩ : ∃ rest, s.inbound = f :: rest := by
    cases hi : s.inbound with
    | nil => simp [HeadOf, hi] at h
    | cons g rest => exact ⟨rest, by simp [HeadOf, hi] at h; rw [h.1]⟩
  have hl := lengthFits_of_headOf h
  simp [takeUp, hs, h.2.1, hm, hl, placeForReply_of_canBegin hp, placeReply_dropHead]

/-- A management frame of the wrong length is answered BAD-LENGTH. -/
theorem takeUp_badLength {k : Kind} {mine : Byte → Bool} {act : Frame → State → State × Answer} {f : Frame} {s : State}
    (hs : s.inbound.head? = some f) (hk : frameCode f = kindCode k) (hl : lengthFits k f = false) (hp : CanBegin s) :
    takeUp k mine act s = replied f (answer .badLength) s := by
  cases hi : s.inbound with
  | nil => simp [hi] at hs
  | cons g rest =>
    obtain rfl : g = f := by simpa [hi] using hs
    simp [takeUp, hi, hk, hl, placeForReply_of_canBegin hp, placeReply_dropHead, replied_keepPlace]

/-- A frame without a place for its REPLY stays where it is. -/
theorem takeUp_stalled {k : Kind} {mine : Byte → Bool} {act : Frame → State → State × Answer} {s : State}
    (h : ¬ CanBegin s) : takeUp k mine act s = s := by
  have hp : placeForReply s = false := by
    simp only [CanBegin, not_or, Bool.not_eq_true] at h
    simp [placeForReply, Config.reportPlaces, h.1, h.2]
  unfold takeUp
  split
  · rfl
  · split <;> simp [hp]

/-- A command with another frame at the head, or none, does nothing. -/
theorem takeUp_otherKind {k : Kind} {mine : Byte → Bool} {act : Frame → State → State × Answer} {s : State}
    (h : ∀ f, s.inbound.head? = some f → frameCode f ≠ kindCode k) : takeUp k mine act s = s := by
  unfold takeUp
  split
  · rfl
  · next f rest hs => simp [h f (by simp [hs])]

end Sys2Proof.Machine
end

