-- ==== Sys2Proof/Tests/Slice0.lean ====
section
/-!
SUPPORT. Small tests: what the receiver's checks refuse, the manual's worked examples, and for each statement with
hypotheses a state and operands that meet them, clause by clause, at the ends of their ranges.
-/

namespace Sys2Proof.Tests

set_option Elab.async false

open Sys2Proof.Machine

/-! ## Helpers -/

/-- A test of the next state that a command gives. -/
def gives (c : Instr) (s : State) (p : State → Bool) : Bool :=
  match exec c s with
  | .next t => p t
  | _ => false

/-- A frame alone in the inbound queue of a reset part. -/
def waiting (f : Frame) : State := State.reset.setInbound [f]

/-- The report queue filled with a number of notices. -/
def filled (n : Nat) (s : State) : State := s.setReport { s.report with queue := List.replicate n (.event 0) }

/-- A part in another tracker state, at the default geometry. -/
def inState (st : TrackerState) (s : State) : State := s.setTrk { s.trk with st := st }

/-- A set lock. -/
def locked (s : State) : State := s.setBanks { s.banks with lock := true }

/-- A record in a state, with serial 1, bound to bank A. -/
def record (st : PartState) (slots : Vector (Option Slot) 4) : Part :=
  { st := st, serial := 1, bank := .a, generation := 0, lot := 7, slots := slots }

/-- Slots with one at station M0. -/
def slot0 (x : Slot) : Vector (Option Slot) 4 := (Vector.replicate 4 none).set 0 (some x)

/-- No notice has been handed a place, and the stall mark is right. -/
def atOpening (s : State) : Bool := !s.report.noticePlace && s.report.stalled == stalled s

/-- Such a state is one of those that the statements set equal to `opened before`. -/
theorem opening_opened {xs : List State} (h : xs.all atOpening = true) : ∀ s ∈ xs, s = opened s := by
  intro s hs
  have hq := List.all_eq_true.1 h s hs
  simp only [atOpening, Bool.and_eq_true, Bool.not_eq_true', beq_iff_eq] at hq
  exact (opened_idle hq.1 hq.2).symm

/-- Nothing is due either. -/
def quiet (s : State) : Bool := atOpening s && nothingDue s

/-- A quiet state is one of those that the statements set equal to `settled before` and `opened before`. -/
theorem quiet_settled {xs : List State} (h : xs.all quiet = true) : ∀ s ∈ xs, s = settled s ∧ s = opened s := by
  intro s hs
  have hq := List.all_eq_true.1 h s hs
  simp only [quiet, Bool.and_eq_true] at hq
  have ho := opening_opened (xs := [s]) (by simp [hq.1]) s (by simp)
  exact ⟨(settled_idle hq.2 ho.symm).symm, ho⟩

/-- The stall mark of a processor that waits at a full report queue. -/
def stalledAt (s : State) : State := s.setReport { s.report with stalled := true }

/-- A lane's record with a changed setup, OPEN. -/
def laneWith (u : LaneSetup) (L : Lane) : Lane := { L with attr := .opened, setup := u }

/-! ## What the receiver's checks refuse (WellFormed) -/

theorem test_wellFormed_bankSwap : Frame.wellFormed [4867, 23040, 37629] = true := by decide

theorem test_lengthAllowed_refuses_one : Frame.lengthAllowed [0x1301] = false := by decide

theorem test_lengthAllowed_refuses_seventeen : Frame.lengthAllowed [0x1311] = false := by decide

theorem test_lengthAgrees_refuses_missing_word : Frame.lengthAgrees [4867, 23040] = false := by decide

theorem test_sumsToZero_refuses_changed_check : Frame.sumsToZero [4867, 23040, 37628] = false := by decide

theorem test_wellFormed_refuses_changed_check : Frame.wellFormed [4867, 23040, 37628] = false := by decide

/-! ## Chapter 4: the reference case, limits and rounding -/

/-- The bank of the reference case, with a stability limit. -/
def caseTable (limit : Nat) : Table :=
  { Table.reset with
    loaded := true, nexp := 4000000, range := 3, tcr := 250, guard := 50, stability := limit, nb := 2,
    entries := (Table.reset.entries.set 0 (some { lo := -1000, hi := 1000, route := none })).set 1
      (some { lo := -5000, hi := 5000, route := none }) }

/-- The stations of the reference case: trims −120 and +30 at M1 and M2. -/
def caseStations : Vector Station 4 :=
  ((Vector.replicate 4 Station.reset).set 1 { Station.reset with role := .prec, trim := -120 }).set 2
    { Station.reset with role := .prec, trim := 30 }

/-- The slots of the reference case. -/
def caseSlots : Vector (Option Slot) 4 :=
  ((slot0 (.contact 1 .ok)).set 1
    (some (.reading 1 { n := 4001234, range := 3, overload := false, temp := some 456 }))).set 2
    (some (.reading 1 { n := 4001190, range := 3, overload := false, temp := some 448 }))

theorem test_reference_case_bin :
    decideVerdict (caseTable 400) caseStations caseSlots = .bin 1 { d := 2173, clamped := false, tnone := false } := by
  decide +kernel

theorem test_reference_case_unstable :
    decideVerdict (caseTable 150) caseStations caseSlots = .unstable { d := 2173, clamped := false, tnone := false } := by
  decide +kernel

theorem test_rounding_cases :
    rawDeviation 3999999 4000000 = -3 ∧ tempCorrection (-37) (some 401) = -2 ∧ tempCorrection 24 (some 401) = 2 ∧
      tempCorrection 8 (some 399) = -1 ∧ rawDeviation 8388606 1048576 = 69999981 := by decide +kernel

/-! ## Chapters 9 and 11: the worked frames -/

theorem test_bankSwap_words : frameOf 0x13 [0x5A00] = [4867, 23040, 37629] := by decide

/-- The LANE-STATE of chapter 11: L7, OPEN, capacity 485, with delivered 480 and reserved 9. -/
def capacityWrite : State :=
  modLane 7 (fun L => { L with delivered := 480, reserved := 9 }) (waiting [8965, 8455, 0, 485, 47631])

theorem test_laneState_raises_capacity :
    gives .laneState capacityWrite (fun t => t.lanes[7].capacity == 489 && laneFull t.lanes[7] && t.inbound == []) =
      true := by decide +kernel

theorem test_laneState_reply_words :
    gives .laneState capacityWrite
        (fun t => t.report.queue.map outWords == [[16900, 8483, 256, 39897]]) = true := by decide +kernel

/-! ## Chapter 1: judder, clean indexes and a slip -/

/-- The default geometry in TRACKING, at a position, lag and travel, with the pair (0, 0) as reference. -/
def turret (pos lag : Nat) (travel : Travel) : State :=
  State.reset.setTrk { State.reset.trk with st := .tracking, pos := pos, lag := lag, travel := travel }

theorem test_judder_raises_reverse :
    gives (.encoderCount false true false) (turret 996 8 0)
        (fun t => t.trk.pos == 995 && t.trk.lag == 9 && !t.trk.armed && t.mask.reverse) = true := by decide +kernel

theorem test_judder_forward_over_old_ground :
    gives (.encoderCount true false false) (turret 995 5 0)
        (fun t => t.trk.pos == 996 && t.trk.lag == 4 && t.trk.travel == 0) = true := by decide +kernel

theorem test_index_lost_counts :
    gives (.indexEvent false) (turret 58 0 4090)
        (fun t => t.trk.pos == 64 && t.trk.lag == 0 && t.trk.travel == 4096 && t.trk.indexRef == 4096) = true := by
  decide +kernel

theorem test_index_gained_counts :
    gives (.indexEvent false) (turret 71 0 4103)
        (fun t => t.trk.pos == 64 && t.trk.lag == 7 && t.trk.travel == 4103 && t.trk.indexRef == 4096) = true := by
  decide +kernel

theorem test_index_slip :
    gives (.indexEvent false) (turret 28 0 4060)
        (fun t => t.trk.pos == 64 && t.trk.indexRef == 4060 && t.mask.slip && t.events.flags.getLsbD 0) = true := by
  decide +kernel

theorem test_missing_index_slip :
    gives .slipMissingIndex (turret 81 0 4113) (fun t => t.mask.masked && t.trk.indexRef == 4113) = true := by
  decide +kernel

/-! ## Chapter 7: the run of three fires -/

theorem test_close_points :
    let u := { LaneSetup.reset with width := 150, firstShot := 40, restDist := 50, tailTrim := 30 }
    closePointOf u 0 0 1 true = 190 ∧ closePointOf u 0 128 2 true = 248 ∧ closePointOf u 256 256 1 false = 406 ∧
      closePointOf u 0 248 3 true = 368 := by decide

/-! ## Witnesses: resets, STOP and START -/

theorem witness_StepRunsFrontCommand :
    ∃ (c : Instr) (rest : List Instr) (s : State), s.pending = c :: rest :=
  ⟨.pauseLoad, [.stop], State.reset.setPending [.pauseLoad, .stop], rfl⟩

/-- A frame in progress, with words and bits of it sent, at the head of a number of notices. -/
def sendingAt (sent bits n : Nat) (s : State) : State :=
  (filled n s).setTx { sending := true, sent := sent, bits := bits }

theorem witness_IdleStepOnlySends :
    (State.reset.pending = [] ∧ State.reset.tx.sending = false ∧ (sendingAt 0 0 0 State.reset).report.queue = []) ∧
      ((sendingAt 2 14 1 State.reset).report.queue = [.event 0] ∧ 16 * 2 + 14 + 1 < 16 * (outWords (.event 0)).length) ∧
      16 * (outWords (.event 0)).length ≤ 16 * 2 + 15 + 1 := by decide +kernel

/-- A RUN-CONTROL frame with an order, tag 7. -/
def order (n : Nat) : Frame := frameOf 0x30 [wordOf 7 (BitVec.ofNat 8 n)]

theorem witness_RunResetLeaves :
    (∀ s ∈ [waiting (order 5), filled 32 (waiting (order 5))],
        s = settled s ∧ s = opened s) ∧
    (HeadOf .runControl (order 5) (waiting (order 5)) ∧ HeadOf .runControl (order 5) (filled 32 (waiting (order 5)))) ∧
      (loByte (word (order 5) 1)).toNat = 5 ∧
      (InUseMatches (waiting (order 5)) ∧ ReservedMatches (waiting (order 5)) ∧ ConfirmQueuesMatch (waiting (order 5))) ∧
      State.reset.tally[tallyUnsorted] + recordsWith (fun _ => true) (waiting (order 5)) ≤ 4294967295 :=
  ⟨quiet_settled (by decide +kernel), by decide +kernel⟩

/-- A part in TRACKING with one AWAIT record, a STOP at the head. -/
def oneRecord : State :=
  modBank .a (fun b => { b with inUse := 1 })
    (setRecord 0 (some (record .await (slot0 .waiting))) (inState .tracking (waiting (order 2))))

theorem witness_StopLeaves :
    (∀ s ∈ [filled 31 (waiting (order 2)), inState .tracking (waiting (order 2)), oneRecord, filled 26 oneRecord],
        s = settled s ∧ s = opened s) ∧
    (HeadOf .runControl (order 2) (filled 31 (waiting (order 2))) ∧ CanBegin (filled 31 (waiting (order 2))) ∧
        (filled 31 (waiting (order 2))).trk.st = .idle) ∧
      (HeadOf .runControl (order 2) (inState .tracking (waiting (order 2))) ∧
        CanBegin (inState .tracking (waiting (order 2))) ∧ (inState .tracking (waiting (order 2))).trk.st ≠ .idle) ∧
      (loByte (word (order 2) 1)).toNat = 2 ∧
      (InUseMatches oneRecord ∧ ReservedMatches oneRecord ∧ ConfirmQueuesMatch oneRecord ∧ PositionInRange oneRecord ∧
        RecordsInPlace oneRecord ∧ oneRecord.report.queue.length + recordsWith (fun _ => true) oneRecord < 28 ∧
        HeadOf .runControl (order 2) oneRecord ∧ CanBegin oneRecord ∧
        HeadOf .runControl (order 2) (filled 26 oneRecord) ∧
        (filled 26 oneRecord).report.queue.length + recordsWith (fun _ => true) (filled 26 oneRecord) < 28) ∧
      (waiting (order 2)).tally[tallyUnsorted] + recordsWith (fun _ => true) (waiting (order 2)) ≤ 4294967295 :=
  ⟨quiet_settled (by decide +kernel), by decide +kernel⟩

/-- A part that START accepts, the START at the head: one PREC station with its deadline right before the lanes, and bank
A LOADED. -/
def ready : State :=
  let s := waiting (order 1)
  let s := s.setStations (s.stations.set 0 { Station.reset with role := .prec, offset := 4, deadline := 3 })
  let s := s.setBanks { s.banks with a := { s.banks.a with table := { s.banks.a.table with loaded := true } } }
  mapLanes (fun L => { L with attr := .opened, setup := { L.setup with offset := 8 } }) s

theorem ready_meets : ∀ n, 1 ≤ n → n ≤ 14 → StartRelation ready n := by
  intro n h1 h2
  interval_cases n <;> simp only [StartRelation, StationRelation, LaneRelation] <;> decide +kernel

/-- The same part with a deadline one pocket longer, at the lanes' offset: check 11 fails, for M0. -/
def meetsTheLanes : State := modStation 0 (fun x => { x with deadline := 4 }) ready

/-- The same part with 33 pockets: check 1 fails. -/
def unevenPockets : State := ready.setGeo { ready.geo with pn := 33 }

theorem witness_StartDecided :
    (∀ s ∈ [ready, inState .homing ready, meetsTheLanes, unevenPockets, ready.setBanks BankStore.reset],
        s = settled s ∧ s = opened s) ∧
    (HeadOf .runControl (order 1) ready ∧ CanBegin ready ∧ (loByte (word (order 1) 1)).toNat = 1 ∧
        ready.trk.st = .idle ∧ ∀ n, 1 ≤ n → n ≤ 14 → StartRelation ready n) ∧
      (HeadOf .runControl (order 1) (inState .homing ready) ∧ CanBegin (inState .homing ready) ∧
        (inState .homing ready).trk.st ≠ .idle) ∧
      (meetsTheLanes.trk.st = .idle ∧ (∀ j, 1 ≤ j → j < 11 → StartRelation meetsTheLanes j) ∧
        ¬ StartRelation meetsTheLanes 11) ∧
      (unevenPockets.trk.st = .idle ∧ ¬ StartRelation unevenPockets 1) ∧
      ((∀ j, 1 ≤ j → j < 14 → StartRelation (ready.setBanks BankStore.reset) j) ∧
        ¬ StartRelation (ready.setBanks BankStore.reset) 14) := by
  refine ⟨quiet_settled (by decide +kernel),
    ⟨by decide +kernel, by decide +kernel, by decide, rfl, ready_meets⟩, by decide +kernel,
    ⟨rfl, ?_, ?_⟩, ⟨rfl, ?_⟩, ?_, ?_⟩
  · intro j h1 h2
    interval_cases j <;> simp only [StartRelation, StationRelation] <;> decide +kernel
  · simp only [StartRelation, StationRelation]; decide +kernel
  · simp only [StartRelation]; decide +kernel
  · intro j h1 h2
    interval_cases j <;> simp only [StartRelation, StationRelation, LaneRelation] <;> decide +kernel
  · simp only [StartRelation]; decide +kernel

theorem witness_PlainOrdersDecided :
    (∀ s ∈ [waiting (order 3), filled 31 (waiting (order 4)), waiting (frameOf 0x34 [0x0700]),
          waiting (frameOf 0x24 [0x070F]), waiting (frameOf 0x24 [0x0710])],
        s = settled s ∧ s = opened s) ∧
    (HeadOf .runControl (order 3) (waiting (order 3)) ∧ CanBegin (waiting (order 3)) ∧
        (loByte (word (order 3) 1)).toNat = 3) ∧
      (HeadOf .runControl (order 4) (filled 31 (waiting (order 4))) ∧ CanBegin (filled 31 (waiting (order 4))) ∧
        (loByte (word (order 4) 1)).toNat = 4) ∧
      HeadOf .lock (frameOf 0x34 [0x0700]) (waiting (frameOf 0x34 [0x0700])) ∧
      (HeadOf .laneEmpty (frameOf 0x24 [0x070F]) (waiting (frameOf 0x24 [0x070F])) ∧
        (loByte (word (frameOf 0x24 [0x070F]) 1)).toNat = (15 : LaneNo).val) ∧
      (HeadOf .laneEmpty (frameOf 0x24 [0x0710]) (waiting (frameOf 0x24 [0x0710])) ∧
        16 ≤ (loByte (word (frameOf 0x24 [0x0710]) 1)).toNat) := ⟨quiet_settled (by decide +kernel), by decide +kernel⟩

/-! ## Witnesses: setup frames -/

/-- A GEOMETRY frame with a number of pockets, X4, C, the index offset, and else the defaults. -/
def geometryFrame (pn c offset : Nat) : Frame :=
  frameOf 0x20 [BitVec.ofNat 16 (7 * 256 + pn), 4, BitVec.ofNat 16 (c / 65536), BitVec.ofNat 16 c, 0x0810,
    BitVec.ofNat 16 offset, 64, 31]

theorem witness_GeometryDecided :
    (∀ s ∈ [waiting (geometryFrame 8 512 511), waiting (geometryFrame 128 65536 65535),
          inState .homing (waiting (geometryFrame 8 512 511)), waiting (geometryFrame 7 512 0)],
        s = settled s ∧ s = opened s) ∧
    (HeadOf .geometry (geometryFrame 8 512 511) (waiting (geometryFrame 8 512 511)) ∧
        CanBegin (waiting (geometryFrame 8 512 511)) ∧ (waiting (geometryFrame 8 512 511)).banks.lock = false ∧
        (waiting (geometryFrame 8 512 511)).trk.st = .idle ∧ GeometryAllowed (geometryFrame 8 512 511) .x4) ∧
      (HeadOf .geometry (geometryFrame 128 65536 65535) (waiting (geometryFrame 128 65536 65535)) ∧
        GeometryAllowed (geometryFrame 128 65536 65535) .x4) ∧
      (inState .homing (waiting (geometryFrame 8 512 511))).trk.st ≠ .idle ∧
      (HeadOf .geometry (geometryFrame 7 512 0) (waiting (geometryFrame 7 512 0)) ∧
        ∀ mode, ¬ GeometryAllowed (geometryFrame 7 512 0) mode) := by
  refine ⟨quiet_settled (by decide +kernel), by decide +kernel, by decide +kernel, by decide +kernel, by decide +kernel, ?_⟩
  intro mode; cases mode <;> decide +kernel

/-- A STATION frame with a station, role, offset and deadline, the largest phase and width, and the least trim. -/
def stationFrame (m role offset deadline : Nat) : Frame :=
  frameOf 0x21 [BitVec.ofNat 16 (7 * 256 + m), BitVec.ofNat 16 (role * 256 + 1), BitVec.ofNat 16 (offset * 256 + deadline),
    8191, 8191, 0xFFFF, 0x3CB0]

theorem witness_StationDecided :
    (∀ s ∈ [waiting (stationFrame 3 2 126 8), waiting (stationFrame 0 1 1 1),
          inState .tracking (waiting (stationFrame 3 2 126 8)), waiting (stationFrame 4 2 126 8)],
        s = settled s ∧ s = opened s) ∧
    (HeadOf .station (stationFrame 3 2 126 8) (waiting (stationFrame 3 2 126 8)) ∧
        CanBegin (waiting (stationFrame 3 2 126 8)) ∧ (waiting (stationFrame 3 2 126 8)).banks.lock = false ∧
        (waiting (stationFrame 3 2 126 8)).trk.st = .idle ∧
        StationAllowed (stationFrame 3 2 126 8) (waiting (stationFrame 3 2 126 8)) 3 .prec) ∧
      StationAllowed (stationFrame 0 1 1 1) (waiting (stationFrame 0 1 1 1)) 0 .contact ∧
      (inState .tracking (waiting (stationFrame 3 2 126 8))).trk.st ≠ .idle ∧
      (HeadOf .station (stationFrame 4 2 126 8) (waiting (stationFrame 4 2 126 8)) ∧
        ∀ m r, ¬ StationAllowed (stationFrame 4 2 126 8) (waiting (stationFrame 4 2 126 8)) m r) := by
  refine ⟨quiet_settled (by decide +kernel), by decide +kernel, by decide +kernel, by decide +kernel, by decide +kernel, ?_⟩
  intro m r; revert m; cases r <;> decide +kernel

/-- A LANE-SETUP frame with a lane, partner and offset, all else at the largest values of R138. -/
def laneSetupFrame (l partner offset : Nat) : Frame :=
  frameOf 0x22 [BitVec.ofNat 16 (7 * 256 + l), BitVec.ofNat 16 (partner * 256 + offset), 8191, 32768, 8192, 65535, 8191,
    32768, 15]

theorem witness_LaneSetupDecided :
    (∀ s ∈ [waiting (laneSetupFrame 15 0 126), waiting (laneSetupFrame 0 255 1),
          inState .homing (waiting (laneSetupFrame 15 0 126)), waiting (laneSetupFrame 0 16 1)],
        s = settled s ∧ s = opened s) ∧
    (HeadOf .laneSetup (laneSetupFrame 15 0 126) (waiting (laneSetupFrame 15 0 126)) ∧
        CanBegin (waiting (laneSetupFrame 15 0 126)) ∧ (waiting (laneSetupFrame 15 0 126)).banks.lock = false ∧
        (waiting (laneSetupFrame 15 0 126)).trk.st = .idle ∧ LaneSetupAllowed (laneSetupFrame 15 0 126) 15 (some 0)) ∧
      LaneSetupAllowed (laneSetupFrame 0 255 1) 0 none ∧
      (inState .homing (waiting (laneSetupFrame 15 0 126))).trk.st ≠ .idle ∧
      (HeadOf .laneSetup (laneSetupFrame 0 16 1) (waiting (laneSetupFrame 0 16 1)) ∧
        ∀ l partner, ¬ LaneSetupAllowed (laneSetupFrame 0 16 1) l partner) := by
  refine ⟨quiet_settled (by decide +kernel), by decide +kernel, by decide +kernel, by decide +kernel, by decide +kernel, ?_⟩
  intro l partner
  cases partner with
  | none => revert l; decide +kernel
  | some q => revert l q; decide +kernel

/-- A LANE-STATE frame with a lane, attribute, overflow action and capacity. -/
def laneStateFrame (l attr action capacity : Nat) : Frame :=
  frameOf 0x23 [BitVec.ofNat 16 (7 * 256 + l), BitVec.ofNat 16 (attr * 256 + action), BitVec.ofNat 16 capacity]

/-- A part outside IDLE whose lane L0, DISABLED, stands at the deadline pocket of M0. -/
def laneAtDeadline (f : Frame) : State :=
  modStation 0 (fun x => { x with role := .contact })
    (modLane 0 (fun L => { L with setup := { L.setup with offset := 2 } }) (inState .homing (waiting f)))

theorem witness_LaneStateDecided :
    (∀ s ∈ [waiting (laneStateFrame 16 0 0 1), laneAtDeadline (laneStateFrame 0 0 1 1), capacityWrite],
        s = settled s ∧ s = opened s) ∧
    (HeadOf .laneState (laneStateFrame 16 0 0 1) (waiting (laneStateFrame 16 0 0 1)) ∧
        CanBegin (waiting (laneStateFrame 16 0 0 1)) ∧
        ∀ (l : LaneNo) (a : LaneAttr) (o : OverflowAction),
          ¬ ((loByte (word (laneStateFrame 16 0 0 1) 1)).toNat = l.val ∧
            AttrCode (hiByte (word (laneStateFrame 16 0 0 1) 2)) a ∧
            ActionCode (loByte (word (laneStateFrame 16 0 0 1) 2)) o)) ∧
      (HeadOf .laneState (laneStateFrame 0 0 1 1) (laneAtDeadline (laneStateFrame 0 0 1 1)) ∧
        (loByte (word (laneStateFrame 0 0 1 1) 1)).toNat = (0 : LaneNo).val ∧
        AttrCode (hiByte (word (laneStateFrame 0 0 1 1) 2)) .opened ∧
        ActionCode (loByte (word (laneStateFrame 0 0 1 1) 2)) .designate ∧
        (laneAtDeadline (laneStateFrame 0 0 1 1)).trk.st ≠ .idle ∧
        (laneAtDeadline (laneStateFrame 0 0 1 1)).lanes[(0 : LaneNo)].attr = .disabled ∧
        ¬ (∀ m : StationNo, measures (laneAtDeadline (laneStateFrame 0 0 1 1)).stations[m] →
          (laneAtDeadline (laneStateFrame 0 0 1 1)).stations[m].offset +
              (laneAtDeadline (laneStateFrame 0 0 1 1)).stations[m].deadline <
            (laneAtDeadline (laneStateFrame 0 0 1 1)).lanes[(0 : LaneNo)].setup.offset)) ∧
      (HeadOf .laneState [8965, 8455, 0, 485, 47631] capacityWrite ∧ capacityWrite.trk.st = .idle ∧
        CapacityWritten (word [8965, 8455, 0, 485, 47631] 3).toNat
          (capacityWrite.lanes[(7 : LaneNo)].delivered + capacityWrite.lanes[(7 : LaneNo)].reserved) 489) ∧
      (CapacityWritten 0 70000 0 ∧ CapacityWritten 5 5 5 ∧ CapacityWritten 5 65535 65535 ∧ CapacityWritten 5 65536 0) := by
  refine ⟨quiet_settled (by decide +kernel),
    ⟨by decide +kernel, by decide +kernel, ?_⟩, by decide +kernel, by decide +kernel, by simp [CapacityWritten]⟩
  rintro l a o ⟨h, _⟩
  revert l; decide +kernel

/-! ## Witnesses: bank frames -/

/-- A BANK-HEADER frame with a number of bins, all else at the largest values of R97. -/
def headerFrame (nb : Nat) : Frame :=
  frameOf 0x10 [BitVec.ofNat 16 (7 * 256 + nb), 7, 0, 9, 0x007A, 0x1200, 5000, 10000, 0x0001, 0x86A0]

/-- A BIN-ENTRY frame with an index and route, from the least to the largest limit of R98. -/
def entryFrame (i route : Nat) : Frame :=
  frameOf 0x11 [BitVec.ofNat 16 (7 * 256 + i), 0xFF67, 0x6980, 0x0098, 0x9680, BitVec.ofNat 16 route]

/-- A SPECIAL-ROUTE frame. -/
def specialFrame (c route : Nat) : Frame := frameOf 0x12 [BitVec.ofNat 16 (7 * 256 + c), BitVec.ofNat 16 route]

/-- A part with bank B, STAGING, LOADED with a number of bins, none set. -/
def staged (nb : Nat) (f : Frame) : State :=
  modBank .b (fun k => { k with table := { k.table with loaded := true, nb := nb } }) (waiting f)

/-- The same with one AWAIT record bound to bank B. -/
def staged1 (f : Frame) : State := modBank .b (fun k => { k with inUse := 1 }) (staged 1 f)

theorem witness_StagingWritesRefused :
    (∀ s ∈ [waiting (headerFrame 24), staged1 (headerFrame 24), staged1 (entryFrame 0 0), staged1 (specialFrame 1 0),
          waiting (headerFrame 25), waiting (entryFrame 24 0), waiting (specialFrame 6 0), waiting (entryFrame 23 255),
          waiting (specialFrame 5 15)],
        s = settled s ∧ s = opened s) ∧
    ((waiting (headerFrame 24)).banks.lock = false ∧ IsStaging (waiting (headerFrame 24)) .b ∧
        CanBegin (waiting (headerFrame 24))) ∧
      (0 < (bankAt (staged1 (headerFrame 24)).banks .b).inUse ∧ HeadOf .bankHeader (headerFrame 24) (staged1 (headerFrame 24)) ∧
        HeadOf .binEntry (entryFrame 0 0) (staged1 (entryFrame 0 0)) ∧
        HeadOf .specialRoute (specialFrame 1 0) (staged1 (specialFrame 1 0))) ∧
      ((bankAt (waiting (headerFrame 25)).banks .b).inUse = 0 ∧ HeadOf .bankHeader (headerFrame 25) (waiting (headerFrame 25)) ∧
        ¬ HeaderAllowed (headerFrame 25)) ∧
      (HeadOf .binEntry (entryFrame 24 0) (waiting (entryFrame 24 0)) ∧ ∀ i r, ¬ EntryAllowed (entryFrame 24 0) i r) ∧
      (HeadOf .specialRoute (specialFrame 6 0) (waiting (specialFrame 6 0)) ∧
        ∀ c r, ¬ SpecialAllowed (specialFrame 6 0) c r) ∧
      ((bankAt (waiting (entryFrame 23 255)).banks .b).table.loaded = false ∧
        HeadOf .binEntry (entryFrame 23 255) (waiting (entryFrame 23 255)) ∧ (∃ i r, EntryAllowed (entryFrame 23 255) i r) ∧
        HeadOf .specialRoute (specialFrame 5 15) (waiting (specialFrame 5 15)) ∧
        ∃ c r, SpecialAllowed (specialFrame 5 15) c r) := by
  refine ⟨quiet_settled (by decide +kernel),
    by decide +kernel, by decide +kernel, by decide +kernel, ⟨by decide +kernel, ?_⟩, ⟨by decide +kernel, ?_⟩,
    by decide +kernel, by decide +kernel, ⟨23, none, by decide +kernel⟩, by decide +kernel,
    ⟨.unstable, some 15, by decide +kernel⟩⟩
  · rintro i r ⟨h, _⟩; revert i; decide +kernel
  · rintro c r ⟨h, _⟩; revert h; cases c <;> decide +kernel

theorem witness_StagingWritten :
    (∀ s ∈ [staged 1 (headerFrame 1), staged 1 (entryFrame 0 15), staged 1 (specialFrame 1 255)],
        s = settled s ∧ s = opened s) ∧
    (CanBegin (staged 1 (headerFrame 1)) ∧ (staged 1 (headerFrame 1)).banks.lock = false ∧
        IsStaging (staged 1 (headerFrame 1)) .b ∧ (bankAt (staged 1 (headerFrame 1)).banks .b).inUse = 0) ∧
      (HeadOf .bankHeader (headerFrame 1) (staged 1 (headerFrame 1)) ∧ HeaderAllowed (headerFrame 1) ∧
        HeaderAllowed (headerFrame 24)) ∧
      (HeadOf .binEntry (entryFrame 0 15) (staged 1 (entryFrame 0 15)) ∧
        (bankAt (staged 1 (entryFrame 0 15)).banks .b).table.loaded = true ∧ EntryAllowed (entryFrame 0 15) 0 (some 15)) ∧
      (HeadOf .specialRoute (specialFrame 1 255) (staged 1 (specialFrame 1 255)) ∧
        SpecialAllowed (specialFrame 1 255) .out none) := ⟨quiet_settled (by decide +kernel), by decide +kernel⟩

theorem witness_BankSwapDecided :
    (∀ s ∈ [staged 0 [4867, 23040, 37629], staged 1 [4867, 23040, 37629], waiting [4867, 23040, 37629]],
        s = settled s ∧ s = opened s) ∧
    (HeadOf .bankSwap [4867, 23040, 37629] (staged 0 [4867, 23040, 37629]) ∧ CanBegin (staged 0 [4867, 23040, 37629]) ∧
        (staged 0 [4867, 23040, 37629]).banks.lock = false ∧ IsStaging (staged 0 [4867, 23040, 37629]) .b ∧
        CompleteTable (bankAt (staged 0 [4867, 23040, 37629]).banks .b).table) ∧
      ¬ CompleteTable (bankAt (staged 1 [4867, 23040, 37629]).banks .b).table ∧
      ¬ CompleteTable (bankAt (waiting [4867, 23040, 37629]).banks .b).table :=
  ⟨quiet_settled (by decide +kernel), by decide +kernel⟩

theorem witness_LockedRefusals :
    (∀ s ∈ [locked (waiting [4867, 23040, 37629])],
        s = settled s ∧ s = opened s) ∧
    Kind.bankSwap ∈ [Kind.bankHeader, .binEntry, .specialRoute, .bankSwap, .geometry, .station, .laneSetup, .tallyClear,
        .formatSelect] ∧
      Instr.bankSwap.frameKind = some .bankSwap ∧ HeadOf .bankSwap [4867, 23040, 37629] (locked (waiting [4867, 23040, 37629])) ∧
      CanBegin (locked (waiting [4867, 23040, 37629])) ∧ (locked (waiting [4867, 23040, 37629])).banks.lock = true :=
  ⟨quiet_settled (by decide +kernel), by decide +kernel⟩

/-! ## Witnesses: mask and event orders -/

/-- A MASK-CONTROL frame with an order, a recovery mode and N. -/
def maskFrame (n mode revs : Nat) : Frame :=
  frameOf 0x31 [BitVec.ofNat 16 (7 * 256 + n), BitVec.ofNat 16 (mode * 256 + revs)]

/-- A forced mask. -/
def masked (s : State) : State := s.setMask { s.mask with masked := true, forced := true }

theorem witness_MaskOrdersDecided :
    (∀ s ∈ [waiting (maskFrame 1 0 0), masked (waiting (maskFrame 1 0 0)),
          masked (inState .tracking (waiting (maskFrame 2 0 0))), masked (waiting (maskFrame 2 0 0)), waiting (maskFrame 3 1 15)],
        s = settled s ∧ s = opened s) ∧
    (HeadOf .maskControl (maskFrame 1 0 0) (waiting (maskFrame 1 0 0)) ∧ CanBegin (waiting (maskFrame 1 0 0)) ∧
        (loByte (word (maskFrame 1 0 0) 1)).toNat = 1 ∧ (waiting (maskFrame 1 0 0)).mask.masked = false ∧
        (masked (waiting (maskFrame 1 0 0))).mask.masked = true) ∧
      (HeadOf .maskControl (maskFrame 2 0 0) (masked (inState .tracking (waiting (maskFrame 2 0 0)))) ∧
        (loByte (word (maskFrame 2 0 0) 1)).toNat = 2 ∧ (masked (inState .tracking (waiting (maskFrame 2 0 0)))).trk.st = .tracking ∧
        (masked (inState .tracking (waiting (maskFrame 2 0 0)))).mask.masked = true ∧
        (masked (waiting (maskFrame 2 0 0))).trk.st ≠ .tracking) ∧
      (HeadOf .maskControl (maskFrame 3 1 15) (waiting (maskFrame 3 1 15)) ∧ (loByte (word (maskFrame 3 1 15) 1)).toNat = 3 ∧
        (hiByte (word (maskFrame 3 1 15) 2)).toNat ≤ 1 ∧ 1 ≤ (loByte (word (maskFrame 3 1 15) 2)).toNat ∧
        (loByte (word (maskFrame 3 1 15) 2)).toNat ≤ 15) ∧
      (2 ≤ (hiByte (word (maskFrame 3 2 1) 2)).toNat ∧ (loByte (word (maskFrame 3 0 0) 2)).toNat = 0 ∧
        16 ≤ (loByte (word (maskFrame 3 0 16) 2)).toNat) := ⟨quiet_settled (by decide +kernel), by decide +kernel⟩

/-- Lanes L0 with SAFE-HIGH (its active level), L1 with a run, and L2 with a run and a rest distance, in TRACKING. -/
def threeLanes : State :=
  let run : Output := .active { first := 0, last := 0, fires := 1, rested := true, closePoint := 1, closeAt := 1 }
  modLane 0 (fun L => { L with setup := { L.setup with safeHigh := true } })
    (modLane 1 (fun L => { L with output := run })
      (modLane 2 (fun L => { L with output := run, setup := { L.setup with restDist := 1 } }) (turret 64 0 0)))

theorem witness_MaskEntryAndExit :
    (threeLanes.trk.st = .tracking ∧ State.reset.trk.st ≠ .tracking) ∧
      safeLevel threeLanes.lanes[(0 : LaneNo)].setup = activeLevel threeLanes.lanes[(0 : LaneNo)].setup ∧
      (safeLevel threeLanes.lanes[(1 : LaneNo)].setup ≠ activeLevel threeLanes.lanes[(1 : LaneNo)].setup ∧
        isActive threeLanes.lanes[(1 : LaneNo)] = true ∧ threeLanes.lanes[(1 : LaneNo)].setup.restDist = 0) ∧
      (isActive threeLanes.lanes[(2 : LaneNo)] = true ∧ 0 < threeLanes.lanes[(2 : LaneNo)].setup.restDist) ∧
      isActive threeLanes.lanes[(3 : LaneNo)] = false := by decide +kernel

/-- An EVENT-CONTROL frame with an order and a flag set. -/
def eventFrame (n flags : Nat) : Frame := frameOf 0x32 [BitVec.ofNat 16 (7 * 256 + n), BitVec.ofNat 16 flags]

theorem witness_EventControlDecided :
    (∀ s ∈ [waiting (eventFrame 1 16383), waiting (eventFrame 2 16383)],
        s = settled s ∧ s = opened s) ∧
    (HeadOf .eventControl (eventFrame 1 16383) (waiting (eventFrame 1 16383)) ∧ CanBegin (waiting (eventFrame 1 16383)) ∧
        (loByte (word (eventFrame 1 16383) 1)).toNat = 1 ∧ (word (eventFrame 1 16383) 2).toNat < 16384 ∧
        16384 ≤ (word (eventFrame 1 16384) 2).toNat) ∧
      (HeadOf .eventControl (eventFrame 2 16383) (waiting (eventFrame 2 16383)) ∧
        (loByte (word (eventFrame 2 16383) 1)).toNat = 2 ∧ (word (eventFrame 2 16383) 2).toNat < 16384 ∧
        16384 ≤ (word (eventFrame 2 16384) 2).toNat) := ⟨quiet_settled (by decide +kernel), by decide +kernel⟩

/-- A FORMAT-SELECT frame. -/
def formatFrame (n : Nat) : Frame := frameOf 0x35 [BitVec.ofNat 16 (7 * 256 + n)]

theorem witness_TallyClearAndFormatSelectDecided :
    (∀ s ∈ [waiting (frameOf 0x33 [0x0700]), waiting (formatFrame 1),
          (waiting (formatFrame 1)).setReport { ReportQueue.reset with formatMark := true }],
        s = settled s ∧ s = opened s) ∧
    (CanBegin (waiting (formatFrame 1)) ∧ (waiting (formatFrame 1)).banks.lock = false) ∧
      HeadOf .tallyClear (frameOf 0x33 [0x0700]) (waiting (frameOf 0x33 [0x0700])) ∧
      (HeadOf .formatSelect (formatFrame 1) (waiting (formatFrame 1)) ∧ (waiting (formatFrame 1)).report.formatMark = false ∧
        (loByte (word (formatFrame 1) 1)).toNat = 1 ∧ (loByte (word (formatFrame 2) 1)).toNat = 2 ∧
        (loByte (word (formatFrame 0) 1)).toNat = 0 ∧ 3 ≤ (loByte (word (formatFrame 3) 1)).toNat) ∧
      ((waiting (formatFrame 1)).setReport { ReportQueue.reset with formatMark := true }).report.formatMark = true :=
  ⟨quiet_settled (by decide +kernel), by decide +kernel⟩

/-! ## Witnesses: queries and the frame processor -/

/-- A QUERY frame with a selector and its two argument words. -/
def queryFrame (n a b : Nat) : Frame :=
  frameOf 0x38 [BitVec.ofNat 16 (7 * 256 + n), BitVec.ofNat 16 a, BitVec.ofNat 16 b]

theorem witness_QueryStatusAndCountsAnswered :
    (∀ s ∈ [waiting (queryFrame 1 0 0), waiting (queryFrame 5 48 255), waiting (queryFrame 6 0 0)],
        s = settled s ∧ s = opened s) ∧
    (HeadOf .query (queryFrame 1 0 0) (waiting (queryFrame 1 0 0)) ∧ CanBegin (waiting (queryFrame 1 0 0)) ∧
        (loByte (word (queryFrame 1 0 0) 1)).toNat = 1) ∧
      (HeadOf .query (queryFrame 5 48 255) (waiting (queryFrame 5 48 255)) ∧
        (loByte (word (queryFrame 5 48 255) 1)).toNat = 5 ∧ (word (queryFrame 5 48 255) 2).toNat ≤ 48 ∧
        1 ≤ (loByte (word (queryFrame 5 48 255) 3)).toNat) ∧
      (49 ≤ (word (queryFrame 5 49 1) 2).toNat ∧ (loByte (word (queryFrame 5 0 0) 3)).toNat = 0) ∧
      (HeadOf .query (queryFrame 6 0 0) (waiting (queryFrame 6 0 0)) ∧ (loByte (word (queryFrame 6 0 0) 1)).toNat = 6) :=
  ⟨quiet_settled (by decide +kernel), by decide +kernel⟩

/-- A part with one record in pocket 127, in a state and with slots. -/
def holding (st : PartState) (slots : Vector (Option Slot) 4) (s : State) : State :=
  setRecord 127 (some (record st slots)) s

/-- A reading with a temperature copy. -/
def reading (n : BitVec 24) : Reading := { n := n, range := 7, overload := false, temp := some (-640) }

theorem witness_QueryRecordsAnswered :
    (∀ s ∈ [waiting (queryFrame 2 128 0), waiting (queryFrame 2 127 0),
          holding .await (slot0 .waiting) (waiting (queryFrame 2 127 0)),
          holding .await (slot0 .waiting) (waiting (queryFrame 2 127 4)), waiting (queryFrame 3 1 25), waiting (queryFrame 4 15 0)],
        s = settled s ∧ s = opened s) ∧
    (HeadOf .query (queryFrame 2 128 0) (waiting (queryFrame 2 128 0)) ∧ CanBegin (waiting (queryFrame 2 128 0)) ∧
        (loByte (word (queryFrame 2 128 0) 1)).toNat = 2 ∧ 128 ≤ (word (queryFrame 2 128 0) 2).toNat ∧
        5 ≤ (word (queryFrame 2 0 5) 3).toNat) ∧
      ((word (queryFrame 2 127 0) 2).toNat = (127 : PocketNo).val ∧ (word (queryFrame 2 127 0) 3).toNat = 0 ∧
        (waiting (queryFrame 2 127 0)).ring[(127 : PocketNo)] = none ∧
        (holding .await (slot0 .waiting) (waiting (queryFrame 2 127 0))).ring[(127 : PocketNo)] =
          some (record .await (slot0 .waiting))) ∧
      ((word (queryFrame 2 127 4) 3).toNat = (3 : StationNo).val + 1 ∧
        (holding .await (slot0 .waiting) (waiting (queryFrame 2 127 4))).ring[(127 : PocketNo)] =
          some (record .await (slot0 .waiting))) ∧
      (HeadOf .query (queryFrame 3 1 25) (waiting (queryFrame 3 1 25)) ∧ (loByte (word (queryFrame 3 1 25) 1)).toNat = 3 ∧
        2 ≤ (word (queryFrame 3 2 0) 2).toNat ∧ 26 ≤ (word (queryFrame 3 1 26) 3).toNat ∧
        (word (queryFrame 3 1 25) 2).toNat = 1 ∧ (word (queryFrame 3 0 25) 2).toNat = 0 ∧
        (word (queryFrame 3 1 23) 3).toNat = (23 : Fin 24).val ∧ (caseTable 0).entries[(1 : Fin 24)] ≠ none ∧
        (caseTable 0).entries[(23 : Fin 24)] = none ∧ (word (queryFrame 3 1 24) 3).toNat = 24 ∧
        (word (queryFrame 3 1 25) 3).toNat = 25) ∧
      (HeadOf .query (queryFrame 4 15 0) (waiting (queryFrame 4 15 0)) ∧ (loByte (word (queryFrame 4 15 0) 1)).toNat = 4 ∧
        16 ≤ (word (queryFrame 4 16 0) 2).toNat ∧ (word (queryFrame 4 15 0) 2).toNat = (15 : LaneNo).val) :=
  ⟨quiet_settled (by decide +kernel), by decide +kernel⟩

/-- A frame of an unknown kind code. -/
def strange (inner : List Word16) : Frame := frameOf 0x25 inner

theorem strange_unknown : ∀ k, kindCode k ≠ frameCode (strange []) ∧ kindCode k ≠ frameCode (strange [0x0700]) := by
  intro k; cases k <;> decide

theorem witness_MalformedFramesAnswered :
    (∀ s ∈ [waiting (strange []), waiting (strange [0x0700]), waiting (frameOf 0x30 []), waiting (order 6),
          waiting (maskFrame 4 0 1), waiting (eventFrame 3 0), waiting (queryFrame 7 0 0)],
        s = settled s ∧ s = opened s) ∧
    ((waiting (strange [])).inbound.head? = some (strange []) ∧ (∀ k, kindCode k ≠ frameCode (strange [])) ∧
        declaredLength (strange []) = 2) ∧
      ((∀ k, kindCode k ≠ frameCode (strange [0x0700])) ∧ declaredLength (strange [0x0700]) ≠ 2 ∧
        CanBegin (waiting (strange [0x0700]))) ∧
      (CanBegin (waiting (frameOf 0x30 [])) ∧ Instr.runReset.frameKind = some .runControl ∧
        isManagement .runControl = true ∧ frameCode (frameOf 0x30 []) = kindCode .runControl ∧
        kindLength .runControl ≠ some (declaredLength (frameOf 0x30 []))) ∧
      (HeadOf .runControl (order 6) (waiting (order 6)) ∧ 6 ≤ (loByte (word (order 6) 1)).toNat ∧
        (loByte (word (order 0) 1)).toNat = 0 ∧ HeadOf .maskControl (maskFrame 4 0 1) (waiting (maskFrame 4 0 1)) ∧
        4 ≤ (loByte (word (maskFrame 4 0 1) 1)).toNat ∧ HeadOf .eventControl (eventFrame 3 0) (waiting (eventFrame 3 0)) ∧
        3 ≤ (loByte (word (eventFrame 3 0) 1)).toNat ∧ HeadOf .query (queryFrame 7 0 0) (waiting (queryFrame 7 0 0)) ∧
        7 ≤ (loByte (word (queryFrame 7 0 0) 1)).toNat) :=
  ⟨quiet_settled (by decide +kernel),
    ⟨by decide +kernel, fun k => (strange_unknown k).1, by decide⟩, ⟨fun k => (strange_unknown k).2, by decide, by decide +kernel⟩,
    by decide +kernel, by decide +kernel⟩

theorem witness_StalledFrameWaits :
    (∀ s ∈ [stalledAt (filled 32 (waiting (order 1))), stalledAt (filled 32 (waiting (strange [0x0700])))],
        s = settled s ∧ s = opened s) ∧
    ((stalledAt (filled 32 (waiting (order 1)))).inbound.head? = some (order 1) ∧
        (stalledAt (filled 32 (waiting (order 1)))).report.replyPlace = false ∧
        32 ≤ fill (stalledAt (filled 32 (waiting (order 1)))) ∧ Instr.start.frameKind = some .runControl ∧
        isManagement .runControl = true ∧ frameCode (order 1) = kindCode .runControl ∧
        ¬ (Kind.runControl = .runControl ∧ declaredLength (order 1) = 3 ∧ (loByte (word (order 1) 1)).toNat = 5)) ∧
      ((∀ k, kindCode k ≠ frameCode (strange [0x0700])) ∧ declaredLength (strange [0x0700]) ≠ 2) :=
  ⟨quiet_settled (by decide +kernel), by decide +kernel, fun k => (strange_unknown k).2, by decide⟩

/-- A TEMP frame with a station and a temperature word. -/
def tempFrame (m : Nat) (w : Word16) : Frame := frameOf 0x02 [BitVec.ofNat 16 (m * 256), w]

theorem witness_FillerAndTempExecuted :
    (∀ s ∈ [waiting (frameOf 0 []), waiting (tempFrame 3 0x8000)],
        s = settled s ∧ s = opened s) ∧
    ((waiting (frameOf 0 [])).inbound.head? = some (frameOf 0 []) ∧ frameCode (frameOf 0 []) = 0x00) ∧
      ((waiting (tempFrame 3 0x8000)).inbound.head? = some (tempFrame 3 0x8000) ∧ frameCode (tempFrame 3 0x8000) = 0x02 ∧
        declaredLength (tempFrame 3 0x8000) = 4 ∧ (hiByte (word (tempFrame 3 0x8000) 1)).toNat = (3 : StationNo).val) ∧
      (4 ≤ (hiByte (word (tempFrame 4 0) 1)).toNat ∧ declaredLength (frameOf 0x02 []) ≠ 4) :=
  ⟨quiet_settled (by decide +kernel), by decide +kernel⟩

/-! ## Witnesses: results and classification -/

/-- A contact-type RESULT frame: station, sequence number, type and contact status. -/
def resultFrame (m q kind b : Nat) : Frame :=
  frameOf 0x01 [BitVec.ofNat 16 (m * 256 + q), BitVec.ofNat 16 (kind * 256 + b), 0, 0]

/-- A part with M0 of role CONTACT. -/
def contactStation (s : State) : State := modStation 0 (fun x => { x with role := .contact }) s

/-- Two slots: OUTSTANDING under 255 at M0, and another at M1. -/
def twoSlots (x : Slot) : Vector (Option Slot) 4 := (slot0 (.outstanding 255)).set 1 (some x)

/-- The state of the witness: one AWAIT record that waits for number 255 at M0. -/
def awaiting (slots : Vector (Option Slot) 4) : State :=
  holding .await slots (contactStation (waiting (resultFrame 0 255 0 2)))

theorem witness_ResultFiled :
    (∀ s ∈ [awaiting (slot0 (.outstanding 255))],
        s = settled s ∧ s = opened s) ∧
    ((awaiting (slot0 (.outstanding 255))).inbound.head? = some (resultFrame 0 255 0 2) ∧
        frameCode (resultFrame 0 255 0 2) = 0x01 ∧ declaredLength (resultFrame 0 255 0 2) = 6 ∧
        (hiByte (word (resultFrame 0 255 0 2) 1)).toNat = (0 : StationNo).val) ∧
      ResultLeaves (awaiting (slot0 (.outstanding 255))) (resultFrame 0 255 0 2) 0 (.contact 255 .shorted) ∧
      (awaiting (slot0 (.outstanding 255))).ring[(127 : PocketNo)] = some (record .await (slot0 (.outstanding 255))) ∧
      (record .await (slot0 (.outstanding 255))).slots[(0 : StationNo)] =
        some (.outstanding (loByte (word (resultFrame 0 255 0 2) 1))) ∧
      (∀ (j : PocketNo) (q : Part), (awaiting (slot0 (.outstanding 255))).ring[j] = some q → j = 127) ∧
      othersUnresolved 0 (record .await (slot0 (.outstanding 255))) = false ∧
      othersUnresolved 0 (record .await (twoSlots .waiting)) = true := by
  refine ⟨quiet_settled (by decide +kernel),
    by decide +kernel, ?_, by decide +kernel, by decide +kernel, ?_, by decide +kernel, by decide +kernel⟩
  · exact .contact .shorted (by decide +kernel) (by decide) (by decide)
  · intro j q h
    by_contra hj
    have hall : ∀ i : PocketNo, i ≠ 127 → (awaiting (slot0 (.outstanding 255))).ring[i] = none := by decide +kernel
    rw [hall j hj] at h; cases h

theorem witness_ResultDiscarded :
    (∀ s ∈ [contactStation (waiting (resultFrame 0 255 0 2)),
          modStation 0 (fun x => { x with expired := [255] }) (contactStation (waiting (resultFrame 0 255 0 2))),
          awaiting (slot0 (.contact 255 .ok))],
        s = settled s ∧ s = opened s) ∧
    ((contactStation (waiting (resultFrame 0 255 0 2))).inbound.head? = some (resultFrame 0 255 0 2) ∧
        frameCode (resultFrame 0 255 0 2) = 0x01 ∧ declaredLength (resultFrame 0 255 0 2) = 6 ∧
        (hiByte (word (resultFrame 0 255 0 2) 1)).toNat = (0 : StationNo).val) ∧
      (declaredLength (frameOf 0x01 []) ≠ 6 ∧
        RowOne (contactStation (waiting (resultFrame 4 1 0 0))) (resultFrame 4 1 0 0) ∧
        RowOne (contactStation (waiting (resultFrame 0 1 0 3))) (resultFrame 0 1 0 3)) ∧
      ResultLeaves (contactStation (waiting (resultFrame 0 255 0 2))) (resultFrame 0 255 0 2) 0 (.contact 255 .shorted) ∧
      (∀ j : PocketNo, (contactStation (waiting (resultFrame 0 255 0 2))).ring[j] = none) ∧
      ((loByte (word (resultFrame 0 255 0 2) 1)) ∈
          (modStation 0 (fun x => { x with expired := [255] }) (contactStation (waiting (resultFrame 0 255 0 2)))).stations[(0 : StationNo)].expired ∧
        (loByte (word (resultFrame 0 255 0 2) 1)) ∉ (contactStation (waiting (resultFrame 0 255 0 2))).stations[(0 : StationNo)].expired) ∧
      (awaiting (slot0 (.contact 255 .ok))).ring[(127 : PocketNo)] = some (record .await (slot0 (.contact 255 .ok))) := by
  refine ⟨quiet_settled (by decide +kernel),
    by decide +kernel, ⟨by decide, ?_, ?_⟩, ?_, by decide +kernel, by decide +kernel, by decide +kernel⟩
  · intro m h
    have : (4 : Nat) = m.val := h
    omega
  · intro m h
    obtain rfl : m = 0 := Fin.ext (by have : (0 : Nat) = m.val := h; omega)
    exact Or.inr (by decide)
  · exact .contact .shorted (by decide +kernel) (by decide) (by decide)

/-- An AWAIT record whose only slot holds a contact failure, with its class routed to L0, at a count below its capacity. -/
def failing (route : Route) (capacity : Nat) : State :=
  let s := holding .await (slot0 (.contact 255 .opened)) State.reset
  let s := modBank .a (fun b => { b with inUse := 1, table := { b.table with loaded := true, routeContact := route } }) s
  modLane 0 (fun L => { L with attr := .opened, capacity := capacity, delivered := 65534 }) s

theorem witness_ClassificationEvent :
    ((failing (some 0) 65535).ring[(127 : PocketNo)] = some (record .await (slot0 (.contact 255 .opened))) ∧
        allResolved (record .await (slot0 (.contact 255 .opened))).slots = true ∧
        decideVerdict (bankAt (failing (some 0) 65535).banks .a).table (failing (some 0) 65535).stations
          (slot0 (.contact 255 .opened)) = .contact) ∧
      (routeFor (bankAt (failing none 0).banks .a).table .contact = none ∧
        routeFor (bankAt (failing (some 0) 65535).banks .a).table .contact = some 0) ∧
      (hasRoom (failing (some 0) 65535).lanes[(0 : LaneNo)] = true ∧ hasRoom (failing (some 0) 65534).lanes[(0 : LaneNo)] = false) ∧
      (∃ (q o : LaneNo), q ≠ 0 ∧ o ≠ 0 ∧ some q ≠ some o) := by
  refine ⟨by decide +kernel, by decide +kernel, by decide +kernel, ⟨1, 2, by decide⟩⟩

theorem witness_VerdictClassDecided :
    decideVerdict (caseTable 400) caseStations (slot0 (.contact 1 .shorted)) = .contact ∧
      decideVerdict (caseTable 400) caseStations (slot0 (.expired none)) = .missing ∧
      decideVerdict (caseTable 400) caseStations (slot0 (.reading 1 (reading 8388607))) = .invalid ∧
      (∃ d, decideVerdict (caseTable 164) caseStations caseSlots = .unstable d) ∧
      (∃ d, decideVerdict (caseTable 165) caseStations caseSlots = .bin 1 d) ∧
      (∃ d, decideVerdict { caseTable 0 with nb := 1 } caseStations caseSlots = .out d) ∧
      (caseSlots[(1 : StationNo)] = some (.reading 1 { n := 4001234, range := 3, overload := false, temp := some 456 }) ∧
        caseSlots[(2 : StationNo)] = some (.reading 1 { n := 4001190, range := 3, overload := false, temp := some 448 })) ∧
      ∃ d, decideVerdict { caseTable 0 with range := 7 } caseStations (slot0 (.reading 1 (reading 8388606))) = .out d := by
  let d : Deviation := { d := 2173, clamped := false, tnone := false }
  exact ⟨by decide +kernel, by decide +kernel, by decide +kernel, ⟨d, by decide +kernel⟩, ⟨d, by decide +kernel⟩,
    ⟨d, by decide +kernel⟩, by decide +kernel, ⟨{ d := 10000000, clamped := true, tnone := false }, by decide +kernel⟩⟩

theorem witness_DeviationInRange :
    (roundHalfAway 5 2 = 3 ∧ roundHalfAway (-5) 2 = -3 ∧ Rounds 5 2 3 ∧ ¬ Rounds 5 2 2 ∧ Rounds (-5) 2 (-3) ∧
        ¬ Rounds (-5) 2 (-2) ∧ rawDeviation 8388606 1048576 = 69999981 ∧ rawDeviation 0 8000000 = -10000000) ∧
      (tempCorrection 5000 (some 2000) = 500000 ∧ tempCorrection (-5000) (some 2000) = -500000 ∧
        tempCorrection 5000 none = 0) ∧
      ((deviationOf { caseTable 0 with tcr := 0 } 0 { reading 0 with temp := none }).clamped = false ∧
        (deviationOf { caseTable 0 with tcr := 0 } (-20) { reading 0 with temp := none }).clamped = true) ∧
      deviationIn (decideVerdict (caseTable 400) caseStations caseSlots) =
        some { d := 2173, clamped := false, tnone := false } := by decide +kernel

/-! ## Witnesses: motion -/

theorem witness_CountsWithoutAdvance :
    (∀ s ∈ [State.reset, turret 4095 4094 0, turret 0 0 0, turret 4095 1 0, turret 0 4094 0, turret 0 7 0, turret 0 8 0,
          turret 0 4095 0],
        s = settled s ∧ s = opened s) ∧
    (PositionInRange State.reset ∧ State.reset.trk.st ≠ .tracking) ∧
      (PositionInRange (turret 4095 4094 0) ∧ (turret 4095 4094 0).trk.st = .tracking) ∧
      (countOf (turret 0 0 0) true true = 0 ∧ countOf (turret 0 0 0) true false = 1 ∧ countOf (turret 0 0 0) false true = -1) ∧
      (0 < (turret 4095 1 0).trk.lag ∧ (turret 0 4094 0).trk.lag + 1 < (turret 0 4094 0).geo.c ∧
        (turret 0 7 0).trk.lag + 1 ≤ (turret 0 7 0).geo.h ∧ (turret 0 8 0).geo.h < (turret 0 8 0).trk.lag + 1 ∧
        (turret 0 8 0).trk.armed = true ∧ (turret 0 4095 0).geo.c ≤ (turret 0 4095 0).trk.lag + 1) ∧
      PositionInRange (turret 0 4095 0) := ⟨quiet_settled (by decide +kernel), by decide +kernel⟩

/-- R164: the fault from LIVE, and from MASKED with reason SLIP. -/
theorem witness_CountsWithoutAdvance_fault :
    (turret 0 8 0).mask.masked = false ∧ (masked (turret 0 8 0)).mask.masked = true := by decide +kernel

theorem witness_MarkAdvances :
    (∀ s ∈ [turret 4095 0 0, turret 126 0 0],
        s = settled s ∧ s = opened s) ∧
    (PositionInRange (turret 4095 0 0) ∧ (turret 4095 0 0).trk.st = .tracking ∧
        countOf (turret 4095 0 0) true false = 1 ∧ (turret 4095 0 0).trk.lag = 0) ∧
      posAfter (turret 4095 0 0) 1 % pitch (turret 4095 0 0).geo = 0 ∧
      posAfter (turret 126 0 0) 1 % pitch (turret 126 0 0).geo ≠ 0 :=
  ⟨quiet_settled (by decide +kernel), by decide +kernel⟩

theorem witness_IndexHomes :
    (∀ s ∈ [State.reset, inState .homing State.reset, masked (inState .homing State.reset)],
        s = settled s ∧ s = opened s) ∧
    State.reset.trk.st = .idle ∧ (inState .homing State.reset).trk.st = .homing ∧
      (inState .homing State.reset).mask.masked = false ∧ (masked (inState .homing State.reset)).mask.masked = true :=
  ⟨quiet_settled (by decide +kernel), by decide +kernel⟩

theorem witness_IndexChecked :
    (∀ s ∈ [turret 81 0 0, turret 80 0 0, turret 80 1 0, turret 64 4095 0, turret 80 4080 0, turret 48 16 0, turret 48 15 0],
        s = settled s ∧ s = opened s) ∧
    (∀ s ∈ [turret 81 0 0, turret 80 0 0, turret 80 1 0, turret 64 4095 0, turret 80 4080 0, turret 48 16 0, turret 48 15 0],
        PositionInRange s ∧ s.trk.st = .tracking) ∧
      (((81 : Int) - 64 - 17) % 4096 = 0 ∧ (turret 81 0 0).geo.ti < (17 : Int).natAbs) ∧
      (((80 : Int) - 64 - 16) % 4096 = 0 ∧ (16 : Int).natAbs ≤ (turret 80 4080 0).geo.ti ∧
        (turret 80 4080 0).geo.c ≤ (turret 80 4080 0).trk.lag + (16 : Int).natAbs ∧
        (turret 80 1 0).trk.lag + (16 : Int).natAbs < (turret 80 1 0).geo.c ∧ 0 < (turret 80 1 0).trk.lag ∧
        (turret 80 0 0).trk.lag = 0) ∧
      (((48 : Int) - 64 - (-16)) % 4096 = 0 ∧ (-16 : Int) < 0 ∧ (-16 : Int).natAbs ≤ (turret 48 16 0).trk.lag ∧
        (turret 48 15 0).trk.lag < (-16 : Int).natAbs) := ⟨quiet_settled (by decide +kernel), by decide +kernel⟩

/-- A mask MASKED with reason SLIP at a clean count, with N = 3. -/
def recovering (clean : Nat) (auto forced : Bool) : State :=
  (turret 0 0 0).setMask { State.reset.mask with masked := true, slip := true, clean := clean, auto := auto, forced := forced }

/-- R166 and R167: LIVE, and MASKED at the last count below N, below it, at 15, in MANUAL, and FORCED. -/
theorem witness_IndexChecked_recovery :
    (turret 0 0 0).mask.masked = false ∧
      (∀ s ∈ [recovering 2 true false, recovering 1 true false, recovering 15 true false, recovering 15 false false,
          recovering 15 true true], s.mask.masked = true ∧ s.mask.clean ≤ 15) ∧
      ((recovering 2 true false).mask.auto = true ∧ (recovering 2 true false).mask.n ≤ 2 + 1 ∧
        (recovering 2 true false).mask.forced = false ∧ (recovering 2 true false).mask.clean < 15 ∧
        15 ≤ (recovering 15 true false).mask.clean) ∧
      (1 + 1 < (recovering 1 true false).mask.n ∧ (recovering 15 false false).mask.auto = false ∧
        (recovering 15 true true).mask.forced = true) := by decide +kernel

/-- The third clean revolution exits the mask, and the second does not (R166). -/
theorem test_third_clean_revolution_exits :
    (cleanRevolution (recovering 2 true false)).mask.masked = false ∧
      (cleanRevolution (recovering 2 true false)).events.flags.getLsbD 3 = true ∧
      (cleanRevolution (recovering 1 true false)).mask.clean = 2 := by decide +kernel

theorem witness_MissingIndexSlips :
    ((turret 81 0 4113).trk.st = .tracking ∧
        (turret 81 0 4113).trk.travel =
          (turret 81 0 4113).trk.indexRef + BitVec.ofNat 32 ((turret 81 0 4113).geo.c + (turret 81 0 4113).geo.ti + 1)) ∧
      (turret 80 0 4112).trk.travel ≠
          (turret 80 0 4112).trk.indexRef + BitVec.ofNat 32 ((turret 80 0 4112).geo.c + (turret 80 0 4112).geo.ti + 1) ∧
      State.reset.trk.st ≠ .tracking ∧ (masked (turret 81 0 4113)).mask.masked = true := by decide +kernel

/-! ## Witnesses: records on the turret -/

/-- PPS high. -/
def part (s : State) : State := s.setPins { s.pins with pps := true }

theorem witness_LoadSampled :
    (phase (part (turret 64 0 0)) = (part (turret 64 0 0)).geo.loadPhase ∧ (part (turret 64 0 0)).trk.st = .tracking ∧
        (part (turret 64 0 0)).mask.masked = false ∧ (part (turret 64 0 0)).loadPause = false ∧
        (part (turret 64 0 0)).pins.pps = true ∧ (part (turret 64 0 0)).ring[pocketAt (part (turret 64 0 0)) 0] = none) ∧
      ((part (turret 64 0 0)).setSerial 0xFFFFFFFF).serial.toNat = 4294967295 ∧ (turret 64 0 0).pins.pps = false ∧
      phase (turret 65 0 0) ≠ (turret 65 0 0).geo.loadPhase := by decide +kernel

/-- A record with slots in pocket 31, which stands at offset 1 when the load pocket is 0, and the station M1 there. -/
def atStation (role : Role) (skip : Bool) (slots : Vector (Option Slot) 4) : State :=
  modStation 1 (fun x => { x with role := role, skip := skip, trigPhase := 0, trigWidth := 5, deadline := 1 })
    (setRecord 31 (some (record .await slots)) (turret 0 0 0))

theorem witness_TriggerIssued :
    (pointAfter none 10 5 = 15 ∧ pointAfter (some 15) 10 5 = 16 ∧ pointAfter (some 14) 10 5 = 15) ∧
      ((atStation .prec true ((slot0 (.contact 1 .opened)).set 1 (some .waiting))).stations[(1 : StationNo)].role ≠ .none ∧
        phase (atStation .prec true ((slot0 (.contact 1 .opened)).set 1 (some .waiting))) =
          (atStation .prec true ((slot0 (.contact 1 .opened)).set 1 (some .waiting))).stations[(1 : StationNo)].trigPhase ∧
        1 < (turret 0 0 0).geo.pn ∧ pocketAt (turret 0 0 0) 1 = 31 ∧
        ((slot0 (.contact 1 .opened)).set 1 (some .waiting))[(1 : StationNo)] = some .waiting ∧
        contactFailed ((slot0 (.contact 1 .opened)).set 1 (some .waiting)) = true) ∧
      contactFailed ((slot0 (.contact 1 .ok)).set 1 (some .waiting)) = false ∧
      (othersUnresolved 1 (record .await ((slot0 (.contact 1 .opened)).set 1 (some .waiting))) = false ∧
        contactFailed (((slot0 (.contact 1 .opened)).set 1 (some .waiting)).set 2 (some (.outstanding 0))) = true ∧
        othersUnresolved 1 (record .await
          (((slot0 (.contact 1 .opened)).set 1 (some .waiting)).set 2 (some (.outstanding 0)))) = true) ∧
      (turret 0 0 0).stations[(1 : StationNo)].role = .none := by decide +kernel

theorem witness_DeadlineExpires :
    (let s := setRecord 30 (some (record .await ((slot0 .skipped).set 1 (some (.outstanding 255)))))
        (atStation .prec false (slot0 .skipped));
      pocketAt s (s.stations[(1 : StationNo)].offset + s.stations[(1 : StationNo)].deadline) = 30 ∧
        s.trk.st = .tracking ∧ s.stations[(1 : StationNo)].role ≠ .none ∧
        s.stations[(1 : StationNo)].offset + s.stations[(1 : StationNo)].deadline < s.geo.pn ∧
        s.ring[(30 : PocketNo)] = some (record .await ((slot0 .skipped).set 1 (some (.outstanding 255)))) ∧
        ((slot0 .skipped).set 1 (some (.outstanding 255)))[(1 : StationNo)] = some (.outstanding 255) ∧
        ((slot0 .skipped).set 1 (some .waiting))[(1 : StationNo)] = some .waiting) ∧
      ([1, 2, 3, 4, 5, 6, 7] : List (BitVec 8)).length ≤ 7 ∧ 8 ≤ ([1, 2, 3, 4, 5, 6, 7, 8] : List (BitVec 8)).length ∧
      State.reset.trk.st ≠ .tracking ∧
      ∀ s ∈ [State.reset, setRecord 30 (some (record .await ((slot0 .skipped).set 1 (some (.outstanding 255)))))
          (atStation .prec false (slot0 .skipped))], s = opened s := by
  refine ⟨by decide +kernel, by decide, by decide, by decide, opening_opened (by decide +kernel)⟩

/-- R69: a RESULT after the pitch event of its slot's deadline, and before any command for that deadline, is late. -/
theorem test_result_after_due_deadline :
    gives .result ((setRecord 30 (some (record .await ((slot0 .skipped).set 1 (some (.outstanding 255)))))
        (atStation .contact false (slot0 .skipped))).setInbound [resultFrame 1 255 0 0])
      (fun t => t.counters.late == 1 && t.events.flags.getLsbD 8) = true := by decide +kernel

/-- A ROUTED record in pocket 31, before lane L0 at offset 1 and fire phase 0, with the lane's output as given. -/
def beforeLane (confirm : Bool) (out : Output) : State :=
  modLane 0 (fun L => { laneWith { L.setup with confirm := confirm, restDist := 50 } L with reserved := 1, output := out })
    (setRecord 31 (some (record (.routed .contact { lane := 0, kind := .direct }) (slot0 (.contact 1 .opened)))) (turret 0 0 250))

theorem witness_FireTaken :
    (∀ s ∈ [beforeLane false (.inactive .rested), beforeLane true (.inactive (.since 200)), beforeLane true (.inactive .cleared),
          beforeLane false (.active { first := 100, last := 200, fires := 1, rested := true, closePoint := 260, closeAt := 260 })],
        pocketAt s s.lanes[(0 : LaneNo)].setup.offset = 31 ∧ phase s = s.lanes[(0 : LaneNo)].setup.firePhase ∧
        s.lanes[(0 : LaneNo)].setup.offset < s.geo.pn ∧
        s.ring[(31 : PocketNo)] =
          some (record (.routed .contact { lane := 0, kind := .direct }) (slot0 (.contact 1 .opened))) ∧
        s.mask.masked = false ∧ s.lanes[(0 : LaneNo)].attr ≠ .disabled) ∧
      ((beforeLane false (.inactive .rested)).lanes[(0 : LaneNo)].setup.confirm = false ∧
        (beforeLane true (.inactive .rested)).lanes[(0 : LaneNo)].setup.confirm = true) ∧
      (masked (beforeLane false (.inactive .rested))).mask.masked = true ∧
      phase (turret 1 0 0) ≠ (turret 1 0 0).lanes[(0 : LaneNo)].setup.firePhase := by decide +kernel

/-- A record in a state at the dump, pocket 1 with the load pocket 0. -/
def atDump (st : PartState) : State := setRecord 1 (some (record st (slot0 .skipped))) (turret 0 0 0)

/-- Lane L0 as a directly reached target. -/
def target0 : Target := { lane := 0, kind := .direct }

theorem witness_RecordsLeaveTheRing :
    (∀ st ∈ [PartState.await, .routed .contact target0, .fired .contact target0, .stranded .contact none .noRoute,
          .stranded .contact none .noLane],
        (atDump st).ring[pocketAt (atDump st) (atDump st).geo.dumpOffset] = some (record st (slot0 .skipped)) ∧
        (1 : PocketNo) = pocketAt (atDump st) (atDump st).geo.dumpOffset) ∧
      (turret 0 0 0).ring[pocketAt (turret 0 0 0) (turret 0 0 0).geo.dumpOffset] = none ∧
      (let s := setRecord 30 (some (record (.routed .contact target0) (slot0 .skipped))) (turret 0 0 0);
        s.lanes[(0 : LaneNo)].setup.offset + 1 < s.geo.pn ∧ 30 = pocketAt s (s.lanes[(0 : LaneNo)].setup.offset + 1) ∧
          s.ring[(30 : PocketNo)] = some (record (.routed .contact target0) (slot0 .skipped))) ∧
      ((turret 0 0 0).geo.pn ≤ (modLane 0 (laneWith { State.reset.lanes[(0 : LaneNo)].setup with offset := 31 })
          (turret 0 0 0)).lanes[(0 : LaneNo)].setup.offset + 1 ∧
        (turret 0 0 0).ring[pocketAt (turret 0 0 0) ((turret 0 0 0).lanes[(0 : LaneNo)].setup.offset + 1)] = none ∧
        target0.lane ≠ 1) := by decide +kernel

theorem witness_PurgeFreesEveryRecord :
    InUseMatches (turret 0 0 0) ∧ ReservedMatches (beforeLane false (.inactive .rested)) ∧
      ConfirmQueuesMatch (beforeLane false (.inactive .rested)) ∧
      (PositionInRange oneRecord ∧ (∀ k : PocketNo, oneRecord.geo.pn ≤ k.val → oneRecord.ring[k] = none) ∧
        fill (filled 27 oneRecord) + recordsWith (fun _ => true) (filled 27 oneRecord) ≤ 28) := by decide +kernel

theorem witness_TravelPointsTaken :
    (let s := modStation 3 (fun x => { x with pulseEnd := some 250 }) (beforeLane false (.inactive (.since 200)));
      s.trk.st = .tracking ∧ s.stations[(3 : StationNo)].pulseEnd = some s.trk.travel ∧
        s.stations[(2 : StationNo)].pulseEnd ≠ some s.trk.travel ∧ isActive s.lanes[(0 : LaneNo)] = false ∧
        s.lanes[(0 : LaneNo)].output = .inactive (.since 200) ∧
        s.trk.travel = 200 + BitVec.ofNat 32 s.lanes[(0 : LaneNo)].setup.restDist) ∧
      (let run : Run := { first := 100, last := 200, fires := 2, rested := true, closePoint := 250, closeAt := 250 };
        (beforeLane false (.active run)).lanes[(0 : LaneNo)].output = .active run ∧
          run.closeAt = (beforeLane false (.active run)).trk.travel ∧ run.closeAt ≠ (turret 0 0 251).trk.travel) := by
  decide +kernel

/-- A FIRED record in pocket 1 with its confirm entry at L0, its window end at travel 250, at a travel. -/
def awaitingDrop (travel : Travel) : State :=
  modLane 0 (fun L => { L with queue := [{ pocket := 1, fire := 100, windowEnd := 250 }], reserved := 1 })
    (setRecord 1 (some (record (.fired .contact target0) (slot0 .skipped))) (turret 0 0 travel))

theorem witness_DropsAndWindowEnds :
    ((∀ s ∈ [turret 0 0 0, awaitingDrop 249], s = settled s ∧ s = opened s) ∧ ∀ s ∈ [awaitingDrop 250], s = opened s) ∧
      (turret 0 0 0).lanes[(15 : LaneNo)].queue = [] ∧
      (∀ s ∈ [awaitingDrop 249, awaitingDrop 250],
        s.lanes[(0 : LaneNo)].queue = [{ pocket := 1, fire := 100, windowEnd := 250 }] ∧
          s.ring[(1 : PocketNo)] = some (record (.fired .contact target0) (slot0 .skipped)) ∧ s.trk.st = .tracking) ∧
      (250 : Travel) = (awaitingDrop 250).trk.travel ∧ (250 : Travel) ≠ (awaitingDrop 249).trk.travel :=
  ⟨⟨quiet_settled (by decide +kernel), opening_opened (by decide +kernel)⟩, by decide +kernel⟩

/-- R147: a STOP after the advance that brought a window end due finds the miss counted. -/
theorem test_stop_after_due_window_end :
    gives .stop ((awaitingDrop 250).setInbound [order 2])
      (fun t => t.counters.ejectMiss == 1 && t.events.flags.getLsbD 11 && t.trk.st == .idle) = true := by decide +kernel

theorem witness_OutputLinesDriven :
    State.reset.trk.st ≠ .tracking ∧ (turret 0 0 0).trk.st = .tracking ∧ (masked (turret 0 0 0)).mask.masked = true ∧
      (turret 0 0 0).mask.masked = false ∧ threeLanes.lanes[(0 : LaneNo)].setup.safeHigh = true ∧
      threeLanes.lanes[(0 : LaneNo)].setup.safeLow = false ∧
      ((filled 1 State.reset).setTx { sending := true, sent := 2, bits := 15 }).report.queue = [.event 0] ∧
      16 * 2 + 15 < 16 * (outWords (.event 0)).length ∧ 0 < 16 * (outWords (.event 0)).length := by decide +kernel

/-! ## Witnesses: the links -/

/-- The receiver in RECEIVING, after words and bits of a frame, with a declared length. -/
def receiving (ws : List Word16) (bits : Nat) (declared : Option Nat) : State :=
  State.reset.setRx { st := .receiving, wordCount := ws.length, bitCount := bits, sum := wordSum ws, shift := 0,
                      declared := declared, words := ws }

theorem witness_ReceiverAssembles :
    (State.reset.rx.st = .waiting ∧ State.reset.pins.mfs = false) ∧
      (∀ s ∈ [receiving [] 14 none, receiving [] 15 none, receiving [0x1302] 0 none, receiving [0x1301] 0 none,
            receiving [0x1302, 0xECFE] 0 (some 2)],
        gives .headerReceived s (fun t => gives .frameComplete t fun u =>
          ((opened u).rx.st == .receiving) == (s.rx.wordCount == 0 || s.rx.words == [0x1302])) = true) ∧
      ((receiving [] 14 none).rx.bitCount ≠ 15 ∧ (receiving [] 15 none).rx.bitCount = 15) ∧
      (∀ i : Fin 16, (1 : Word16).getLsbD i =
        if i.val = 0 then true else (receiving [] 15 none).rx.shift.getLsbD (i - 1)) := by decide +kernel

theorem witness_FramesExamined :
    (∀ s ∈ [receiving [0x1302] 0 none, receiving [0x1310] 0 none, receiving [0x1301] 0 none, receiving [0x1311] 0 none],
        s.rx.st = .receiving ∧ s.rx.wordCount = 1 ∧ s.rx.bitCount = 0 ∧ s.rx.declared = none) ∧
      ((loByte (word [0x1302] 0)).toNat = 2 ∧ (loByte (word [0x1310] 0)).toNat = 16 ∧ (loByte (word [0x1301] 0)).toNat < 2 ∧
        16 < (loByte (word [0x1311] 0)).toNat) ∧
      (let s := receiving [4867, 23040, 37629] 0 (some 3);
        s.rx.st = .receiving ∧ s.rx.declared = some s.rx.wordCount ∧ s.rx.sum = 0 ∧
          (s.setInbound (List.replicate 7 [])).inbound.length < 8 ∧ 8 ≤ (s.setInbound (List.replicate 8 [])).inbound.length) ∧
      (receiving [4867, 23040, 37628] 0 (some 3)).rx.sum ≠ 0 ∧ State.reset.rx.st ≠ .receiving ∧
      ∀ s ∈ [receiving [0x1302] 0 none, receiving [0x1310] 0 none, receiving [0x1301] 0 none, receiving [0x1311] 0 none,
          receiving [4867, 23040, 37629] 0 (some 3), receiving [4867, 23040, 37628] 0 (some 3), State.reset],
        s = opened s :=
  ⟨by decide +kernel, by decide +kernel, by decide +kernel, by decide +kernel, by decide +kernel,
    opening_opened (by decide +kernel)⟩

/-- A pending notice. -/
def noticed (first : Bool) (s : State) : State := s.setEvents { s.events with noticePending := true, noticeFirst := first }

/-- A freed place handed to the pending notice. -/
def handed (s : State) : State := noticed true (s.setReport { s.report with noticePlace := true })

theorem witness_TransmitterActs :
    (∀ s ∈ [filled 1 State.reset, sendingAt 1 0 1 State.reset, stalledAt (sendingAt 2 15 32 (waiting (order 1))),
          noticed true (stalledAt (sendingAt 2 15 32 (waiting (order 1)))),
          noticed false (stalledAt (sendingAt 2 15 32 (waiting (order 1)))), sendingAt 0 0 31 State.reset],
        s = settled s ∧ s = opened s) ∧
      ((filled 1 State.reset).tx.sending = false ∧ (filled 1 State.reset).report.queue ≠ [] ∧
        State.reset.report.queue = [] ∧ (sendingAt 1 0 1 State.reset).tx.sending = true) ∧
      ((sendingAt 2 15 32 (waiting (order 1))).report.queue = .event 0 :: List.replicate 31 (.event 0) ∧
        32 ≤ fill (sendingAt 2 15 32 (waiting (order 1))) ∧
        (sendingAt 2 15 32 (waiting (order 1))).inbound.head? = some (order 1) ∧ waitsForPlace (order 1) = true ∧
        (stalledAt (sendingAt 2 15 32 (waiting (order 1)))).report.stalled = true) ∧
      ¬ 32 ≤ fill (sendingAt 0 0 31 State.reset) ∧
      ((handed (sendingAt 0 0 31 State.reset)).report.noticePlace = true ∧ State.reset.report.noticePlace = false) :=
  ⟨quiet_settled (by decide +kernel), by decide +kernel⟩

/-- R200: a place taken by a notice of the same event, and a second notice that begins to wait in that event before the
processor is stalled at the head frame: the notice is first. -/
theorem test_notice_of_the_event_waits_first :
    (offerNotice (offerNotice (filled 31 (waiting (order 1))))).events.noticeFirst = true := by decide +kernel

/-- R200: a notice that begins to wait while the processor is stalled comes second. -/
theorem test_notice_after_the_stall_waits_second :
    (offerNotice (stalledAt (filled 32 (waiting (order 1))))).events.noticeFirst = false := by decide +kernel

/-- R201, R219: the first bits of an EVENT frame on RDAT are those of its header 4303, most significant bit first. -/
theorem test_rdat_bits :
    ([0, 1, 6, 14, 15].map fun n => rdatLine (sendingAt 0 n 1 State.reset)) =
      [some false, some true, some true, some true, some true] := by decide +kernel

/-- Every enable set. -/
def enabled (s : State) : State := s.setEvents { s.events with enables := 16383 }

theorem witness_FlagsAndReportsAdmitted :
    ((enabled (filled 31 State.reset)).events.flags.getLsbD (flagBit .reportDrop) = false ∧
        (enabled (filled 31 State.reset)).events.enables.getLsbD (flagBit .reportDrop) = true ∧
        State.reset.events.enables.getLsbD (flagBit .reportDrop) = false ∧ fill (enabled (filled 31 State.reset)) < 32) ∧
      (32 ≤ fill (enabled (filled 32 State.reset)) ∧ (enabled (filled 32 State.reset)).events.noticePending = false ∧
        (noticed true (enabled (filled 32 State.reset))).events.noticePending = true) ∧
      ((State.reset.setEvents { Events.reset with flags := 8192 }).events.flags.getLsbD (flagBit .reportDrop) = true) ∧
      (fill (filled 27 State.reset) < 28 ∧ 28 ≤ fill (filled 28 State.reset)) := by decide +kernel

theorem witness_OutboundFramesWellFormed :
    (List.replicate 12 (0 : Word16)).length ≤ 12 ∧
      (let r : PartReport := { outcome := .unsorted, pocket := 127, part := record .await (slot0 .waiting), purged := true,
                               formatTwo := true, readings := [(1, .waiting), (2, .waiting)] };
        r.readings.length ≤ 2 ∧ (outWords (.part r)).length = 21 ∧ (standing r.part.st).code = 1) := by decide +kernel

/-! ## Witnesses: what every command keeps -/

/-- A running part with three records: one AWAIT, one ROUTED to L0 and one FIRED at L1; a STOP waits in the inbound queue, and
the command that executes it in the queue of commands. -/
def busy : State :=
  let s := ready.setInbound [order 2]
  let s := s.setTrk { s.trk with st := .tracking, pos := 64 }
  let s := setRecord 0 (some (record .await (slot0 .waiting))) s
  let s := setRecord 1 (some (record (.routed .contact target0) (slot0 .skipped))) s
  let s := setRecord 2 (some (record (.fired .contact { lane := 1, kind := .partner }) (slot0 .skipped))) s
  let s := modLane 0 (fun L => { L with reserved := 1, capacity := 1 }) s
  let s := modLane 1 (fun L => { L with reserved := 1, queue := [{ pocket := 2, fire := 0, windowEnd := 1 }] }) s
  let s := modBank .a (fun b => { b with inUse := 1 }) s
  (s.setTally (s.tally.set tallyLoaded 3)).setPending [.stop]

theorem busy_steps : ∃ t, step busy = .next t := ⟨_, rfl⟩

theorem witness_QueuesStayBounded :
    QueuesBounded (filled 32 (busy.setInbound (List.replicate 8 (order 2)))) ∧ QueuesBounded busy := by decide +kernel

theorem witness_InboundFramesStayWellFormed :
    (InboundWellFormed busy ∧ ReceiverConsistent busy) ∧ ReceiverConsistent (receiving [0x1302, 0xECFE] 0 (some 2)) ∧
      ReceiverConsistent (receiving [] 15 none) :=
  ⟨⟨by decide +kernel, by decide +kernel⟩, by decide +kernel, by decide +kernel⟩

theorem witness_MaskStaysConsistent :
    (MaskConsistent busy ∧ RunsOnlyWhileLive busy) ∧ MaskConsistent (masked busy) ∧
      RunsOnlyWhileLive (modLane 1 (fun L => { L with output := .active { first := 0, last := 0, fires := 1, rested := true, closePoint := 1, closeAt := 1 } }) busy) := by
  decide +kernel

theorem witness_PositionAndRecordsStayInRange : PositionInRange busy ∧ RecordsInPlace busy := by decide +kernel

theorem witness_RelationsGoOnHolding : RunsWithinRelations busy := by
  intro _ n h1 h2
  interval_cases n <;> simp only [StartRelation, StationRelation, LaneRelation] <;> decide +kernel

theorem witness_CountsMatchRecords : InUseMatches busy ∧ ReservedMatches busy ∧ LanesFit busy := by decide +kernel

theorem witness_TallyStaysBalanced : TallyBalances busy ∧ ∀ i : Fin 49, busy.tally[i] < 4294967295 := by decide +kernel

theorem witness_ConfirmQueuesStayMatched : ConfirmQueuesMatch busy := by decide +kernel

theorem witness_TablesInUseKept :
    (∀ s ∈ [busy], s = settled s ∧ s = opened s) ∧ (∃ t, exec .stop busy = .next t) ∧ GenerationMatches busy ∧
      BankId.a = busy.banks.live ∧ 0 < (bankAt busy.banks .a).inUse :=
  ⟨quiet_settled (by decide +kernel), ⟨_, rfl⟩, by decide +kernel⟩

theorem witness_SettingsKept :
    (∃ t, exec .stop (locked busy) = .next t) ∧ (locked busy).banks.lock = true ∧ busy.trk.st ≠ .idle :=
  ⟨⟨_, rfl⟩, by decide +kernel⟩

theorem witness_VerdictKept :
    let s := holding (.stranded .contact none .noRoute) (slot0 .skipped) (State.reset.setLoadPause true)
    let p := record (.stranded .contact none .noRoute) (slot0 .skipped)
    s.loadPause = true ∧ s.ring[(127 : PocketNo)] = some p ∧ verdictOf p = some .contact ∧
      ∃ t, exec (.encoderCount true false true) s = .next t ∧ t.ring[(127 : PocketNo)] = some p :=
  ⟨rfl, by decide +kernel, rfl, _, rfl, by decide +kernel⟩

theorem witness_VerdictKept_loading :
    RunsWithinRelations busy ∧ PositionInRange busy ∧ RecordsInPlace busy ∧ busy.loadPause = false ∧
      busy.ring[(1 : PocketNo)] = some (record (.routed .contact target0) (slot0 .skipped)) ∧
      verdictOf (record (.routed .contact target0) (slot0 .skipped)) = some .contact ∧
      gives (.encoderCount true false true) busy (fun t => t.ring[(1 : PocketNo)] ==
        some (record (.routed .contact target0) (slot0 .skipped))) = true :=
  ⟨witness_RelationsGoOnHolding, by decide +kernel⟩

end Sys2Proof.Tests
end

section
/-!
PROOF. The deviation unit and the class decision: the rounded quotient, the four stages of a reading, what the decision
takes from a record's slots, and the two statements about them.
-/

namespace Sys2Proof.Machine

/-! ## The rounded quotient (R76) -/

theorem roundHalfAway_rounds (a : Int) {b : Nat} (hb : 0 < b) : Rounds a b (roundHalfAway a b) := by
  unfold Rounds roundHalfAway
  set m := (2 * a.natAbs + b) / (2 * b)
  have hlo : m * (2 * b) ≤ 2 * a.natAbs + b := Nat.div_mul_le_self ..
  have hhi : 2 * a.natAbs + b < (m + 1) * (2 * b) := Nat.lt_mul_of_div_lt (Nat.lt_succ_self m) (by omega)
  have hm : m * (2 * b) = 2 * (m * b) := by ring
  have hm' : (m + 1) * (2 * b) = 2 * (m * b) + 2 * b := by ring
  obtain hneg | hzero | hpos := Int.lt_trichotomy a 0
  · rw [Int.sign_eq_neg_one_of_neg hneg, show (-1 * (m : Int)) * b = -((m * b : Nat) : Int) by push_cast; ring]
    omega
  · subst hzero
    simpa using hb.ne
  · rw [Int.sign_eq_one_of_pos hpos, show (1 * (m : Int)) * b = ((m * b : Nat) : Int) by push_cast; ring]
    omega

/-- A rounded quotient passes a whole number only where the exact quotient comes within a half of the next. -/
theorem Rounds.le {a : Int} {b : Nat} {q : Int} (h : Rounds a b q) (k : Int) (hk : 2 * a < (2 * k + 1) * b) : q ≤ k := by
  by_contra! hq
  have hqb : (k + 1) * b ≤ q * b := Int.mul_le_mul_of_nonneg_right hq (by omega)
  have hnear : 2 * (q * b - a) ≤ b := by omega
  linarith

theorem Rounds.ge {a : Int} {b : Nat} {q : Int} (h : Rounds a b q) (k : Int) (hk : (2 * k - 1) * b < 2 * a) : k ≤ q := by
  by_contra! hq
  have hqb : q * b ≤ (k - 1) * b := Int.mul_le_mul_of_nonneg_right (by omega) (by omega)
  have hnear : 2 * (a - q * b) ≤ b := by omega
  linarith

/-! ## The stages of one reading (R78 to R81) -/

theorem rawDeviation_rounds (n : Int) {nexp : Nat} (h : 0 < nexp) :
    Rounds ((n - nexp) * 10000000) nexp (rawDeviation n nexp) :=
  roundHalfAway_rounds _ h

theorem neg_limit_le_rawDeviation (n : Nat) {nexp : Nat} (h : 0 < nexp) : -10000000 ≤ rawDeviation n nexp :=
  (rawDeviation_rounds n h).ge _ (by omega)

theorem rawDeviation_le_of_valid {n nexp : Nat} (hn : n ≤ 8388606) (h : 1048576 ≤ nexp) :
    rawDeviation n nexp ≤ 69999981 :=
  (rawDeviation_rounds n (by omega)).le _ (by omega)

theorem rawDeviation_zero {nexp : Nat} (h : 0 < nexp) : rawDeviation 0 nexp = -10000000 :=
  le_antisymm ((rawDeviation_rounds 0 h).le _ (by omega)) (neg_limit_le_rawDeviation 0 h)

theorem rawDeviation_largest : rawDeviation 8388606 1048576 = 69999981 := by decide +kernel

theorem tempCorrection_rounds (tcr x : Int) : Rounds (tcr * (x - 400)) 16 (tempCorrection tcr (some x)) :=
  roundHalfAway_rounds _ (by decide)

@[simp] theorem tempCorrection_none (tcr : Int) : tempCorrection tcr none = 0 := by simp [tempCorrection, roundHalfAway]

/-- The extremes of TCR and T bound the dividend by 16 times 500,000 (R80). -/
theorem tempCorrection_bounds {tcr : Int} {temp : Option Int} (hlo : -5000 ≤ tcr) (hhi : tcr ≤ 5000)
    (htemp : ∀ x, temp = some x → -640 ≤ x ∧ x ≤ 2000) :
    -500000 ≤ tempCorrection tcr temp ∧ tempCorrection tcr temp ≤ 500000 := by
  cases temp with
  | none => simp
  | some x =>
    obtain ⟨hxlo, hxhi⟩ := htemp x rfl
    have hdividend : |tcr * (x - 400)| ≤ 5000 * 1600 := by
      rw [abs_mul]
      exact mul_le_mul (abs_le.mpr ⟨hlo, hhi⟩) (abs_le.mpr ⟨by omega, by omega⟩) (abs_nonneg _) (by decide)
    obtain ⟨hbelow, habove⟩ := abs_le.mp hdividend
    have hrounds := tempCorrection_rounds tcr x
    exact ⟨hrounds.ge _ (by omega), hrounds.le _ (by omega)⟩

theorem clampD_eq_ite (d : Int) :
    clampD d = if d < -10000000 then -10000000 else if 10000000 < d then 10000000 else d := by
  unfold clampD
  split_ifs <;> omega

theorem clampD_ne_self_iff (d : Int) : clampD d ≠ d ↔ d < -10000000 ∨ 10000000 < d := by
  unfold clampD
  omega

/-! ## The D of a record (R82, R84) -/

/-- D lies within its limits (R75). -/
def Deviation.InRange (x : Deviation) : Prop := -10000000 ≤ x.d ∧ x.d ≤ 10000000

theorem deviationOf_inRange (tb : Table) (trim : Int) (r : Reading) : (deviationOf tb trim r).InRange := by
  simp only [Deviation.InRange, deviationOf, clampD]
  omega

theorem roundHalfAway_mean_inRange {x y : Deviation} (hx : x.InRange) (hy : y.InRange) :
    -10000000 ≤ roundHalfAway (x.d + y.d) 2 ∧ roundHalfAway (x.d + y.d) 2 ≤ 10000000 := by
  obtain ⟨hxlo, hxhi⟩ := hx
  obtain ⟨hylo, hyhi⟩ := hy
  have hrounds := roundHalfAway_rounds (x.d + y.d) (b := 2) (by decide)
  exact ⟨hrounds.ge _ (by omega), hrounds.le _ (by omega)⟩

theorem combine_inRange {ds : List Deviation} (h : ∀ x ∈ ds, x.InRange) : (combine ds).InRange := by
  match ds with
  | [] => simp [combine, Deviation.InRange]
  | [x] => exact h x (by simp)
  | x :: y :: _ => exact roundHalfAway_mean_inRange (h x (by simp)) (h y (by simp))

/-! ## The bin search (R88) -/

theorem binHolds_iff (tb : Table) (d : Int) (i : Fin 24) :
    binHolds tb d i = true ↔ i.val < tb.nb ∧ ∃ e, tb.entries[i] = some e ∧ e.lo + tb.guard ≤ d ∧ d ≤ e.hi - tb.guard := by
  cases h : tb.entries[i] <;> simp [binHolds, windowHolds, h]

theorem allBins_eq_finRange : allBins = List.finRange 24 := by decide

theorem binSearch_eq_none_iff (tb : Table) (d : Int) : binSearch tb d = none ↔ ∀ i, binHolds tb d i ≠ true := by
  simp [binSearch, allBins_eq_finRange]

/-- The bin found holds D, and no bin before it does. -/
theorem binSearch_eq_some {tb : Table} {d : Int} {i : Fin 24} (h : binSearch tb d = some i) :
    binHolds tb d i = true ∧ ∀ j < i, binHolds tb d j ≠ true := by
  rw [binSearch, List.find?_eq_some_iff_append] at h
  obtain ⟨hi, before, after, hsplit, hbefore⟩ := h
  refine ⟨hi, fun j hj => ?_⟩
  have hsorted : (before ++ i :: after).Pairwise (· < ·) := by
    rw [← hsplit, allBins_eq_finRange]
    exact List.pairwise_lt_finRange 24
  have hmem : j ∈ before ++ i :: after := by simp [← hsplit, allBins_eq_finRange]
  obtain hj' | rfl | hj' := by simpa using hmem
  · simpa using hbefore j hj'
  · exact absurd hj (lt_irrefl _)
  · have hafter : i < j := (List.pairwise_cons.mp (List.pairwise_append.mp hsorted).2.1).1 j hj'
    exact absurd hj hafter.asymm

/-! ## What the decision takes from a record's slots -/

theorem allStations_eq_finRange : allStations = List.finRange 4 := by decide

theorem mem_slotList_iff (slots : Vector (Option Slot) 4) (m : StationNo) (x : Slot) :
    (m, x) ∈ slotList slots ↔ slots[m] = some x := by
  simp [slotList, allStations_eq_finRange]

theorem contactFailed_iff (slots : Vector (Option Slot) 4) :
    contactFailed slots = true ↔
      ∃ (m : StationNo) (q : BitVec 8) (st : ContactStatus), slots[m] = some (.contact q st) ∧ st ≠ .ok := by
  have hslot : ∀ x, isContactFailure x = true ↔ ∃ q st, x = .contact q st ∧ st ≠ .ok := by
    intro x
    cases x with
    | contact q st => cases st <;> simp [isContactFailure]
    | _ => simp [isContactFailure]
  simp only [contactFailed, List.any_eq_true, Prod.exists, mem_slotList_iff, hslot]
  constructor
  · rintro ⟨m, _, hm, q, st, rfl, hst⟩
    exact ⟨m, q, st, hm, hst⟩
  · rintro ⟨m, q, st, hm, hst⟩
    exact ⟨m, _, hm, q, st, rfl, hst⟩

/-- Row 2 of R85: a slot of the record is EXPIRED. -/
def slotExpired (slots : Vector (Option Slot) 4) : Bool := (slotList slots).any fun x => isExpired x.2

theorem slotExpired_iff (slots : Vector (Option Slot) 4) :
    slotExpired slots = true ↔ ∃ (m : StationNo) (q : Option (BitVec 8)), slots[m] = some (.expired q) := by
  have hslot : ∀ x, isExpired x = true ↔ ∃ q, x = .expired q := by
    intro x
    cases x <;> simp [isExpired]
  simp only [slotExpired, List.any_eq_true, Prod.exists, mem_slotList_iff, hslot]
  constructor
  · rintro ⟨m, _, hm, q, rfl⟩
    exact ⟨m, q, hm⟩
  · rintro ⟨m, q, hm⟩
    exact ⟨m, _, hm, q, rfl⟩

/-- The reading that a station's slot holds, with the station's trim. -/
def trimmedReading (stations : Vector Station 4) (slots : Vector (Option Slot) 4) (m : StationNo) :
    Option (Int × Reading) :=
  match slots[m] with
  | some (.reading _ r) => some (stations[m].trim, r)
  | _ => none

theorem trimmedReading_of_reading (stations : Vector Station 4) {slots : Vector (Option Slot) 4} {m : StationNo}
    {q : BitVec 8} {r : Reading} (h : slots[m] = some (.reading q r)) :
    trimmedReading stations slots m = some (stations[m].trim, r) := by
  simp [trimmedReading, h]

theorem trimmedReading_eq_some_iff (stations : Vector Station 4) (slots : Vector (Option Slot) 4) (m : StationNo)
    (t : Int) (r : Reading) :
    trimmedReading stations slots m = some (t, r) ↔ (∃ q, slots[m] = some (.reading q r)) ∧ stations[m].trim = t := by
  unfold trimmedReading
  split
  · next q r' h => simp [h, and_comm]
  · next h => simpa using fun q hq => absurd hq (h q r)

theorem trimmedReading_eq_none {stations : Vector Station 4} {slots : Vector (Option Slot) 4} {m : StationNo}
    (h : ∀ q r, slots[m] ≠ some (.reading q r)) : trimmedReading stations slots m = none := by
  unfold trimmedReading
  split
  · next q r hm => exact absurd hm (h q r)
  · rfl

theorem readingsWithTrim_eq (stations : Vector Station 4) (slots : Vector (Option Slot) 4) :
    readingsWithTrim stations slots = (List.finRange 4).filterMap (trimmedReading stations slots) := by
  rw [readingsWithTrim, slotList, allStations_eq_finRange, List.filterMap_filterMap]
  congr 1
  funext m
  cases hm : slots[m] with
  | none => simp [trimmedReading, hm]
  | some x => cases x <;> simp [trimmedReading, hm]

theorem readingValid_iff (tb : Table) (r : Reading) :
    readingValid tb r = true ↔ r.overload = false ∧ r.range = tb.range ∧ r.n.toNat ≤ 8388606 := by
  simp [readingValid, and_assoc]

/-- Row 3 of R85: a reading of the record is invalid. -/
def readingInvalid (tb : Table) (stations : Vector Station 4) (slots : Vector (Option Slot) 4) : Bool :=
  (readingsWithTrim stations slots).any fun x => !readingValid tb x.2

theorem readingInvalid_iff (tb : Table) (stations : Vector Station 4) (slots : Vector (Option Slot) 4) :
    readingInvalid tb stations slots = true ↔
      ∃ (m : StationNo) (q : BitVec 8) (r : Reading), slots[m] = some (.reading q r) ∧
        ¬ (r.overload = false ∧ r.range = tb.range ∧ r.n.toNat ≤ 8388606) := by
  simp only [readingInvalid, readingsWithTrim_eq, List.any_eq_true, List.mem_filterMap, List.mem_finRange, true_and,
    Prod.exists, trimmedReading_eq_some_iff, Bool.not_eq_true', ← readingValid_iff, Bool.not_eq_true]
  constructor
  · rintro ⟨_, r, ⟨m, ⟨q, hm⟩, -⟩, hr⟩
    exact ⟨m, q, r, hm, hr⟩
  · rintro ⟨m, q, r, hm, hr⟩
    exact ⟨_, r, ⟨m, ⟨q, hm⟩, rfl⟩, hr⟩

/-! ## The deviations of a record with one or two readings -/

/-- A function with a value at one member of a list alone keeps that value alone. -/
theorem filterMap_eq_singleton {ι α : Type} {f : ι → Option α} {l : List ι} {m : ι} {a : α} (hl : l.Nodup) (hm : m ∈ l)
    (ha : f m = some a) (hrest : ∀ k ∈ l, k ≠ m → f k = none) : l.filterMap f = [a] := by
  obtain ⟨before, after, rfl⟩ := List.append_of_mem hm
  obtain ⟨hafter, hnodup⟩ := List.nodup_cons.mp (List.nodup_middle.mp hl)
  rw [List.mem_append, not_or] at hafter
  have hb : before.filterMap f = [] :=
    List.filterMap_eq_nil_iff.mpr fun k hk => hrest k (by simp [hk]) (ne_of_mem_of_not_mem hk hafter.1)
  have ht : after.filterMap f = [] :=
    List.filterMap_eq_nil_iff.mpr fun k hk => hrest k (by simp [hk]) (ne_of_mem_of_not_mem hk hafter.2)
  simp [hb, ht, ha]

/-- A function with values at two indexes alone keeps both, in the order of the indexes. -/
theorem filterMap_finRange_eq_pair {α : Type} {c : Nat} {f : Fin c → Option α} {m n : Fin c} {a b : α} (hmn : m < n)
    (ha : f m = some a) (hb : f n = some b) (hrest : ∀ k, k ≠ m → k ≠ n → f k = none) :
    (List.finRange c).filterMap f = [a, b] := by
  have hsorted := List.pairwise_lt_finRange c
  have hmem := List.mem_finRange n
  obtain ⟨before, after, hsplit⟩ := List.append_of_mem (List.mem_finRange m)
  rw [hsplit] at hsorted hmem ⊢
  obtain ⟨-, hsortedAfter, hbefore⟩ := List.pairwise_append.mp hsorted
  obtain ⟨hafter, hsortedAfter⟩ := List.pairwise_cons.mp hsortedAfter
  have hlow : before.filterMap f = [] := List.filterMap_eq_nil_iff.mpr fun k hk => by
    have hkm : k < m := hbefore k hk m (by simp)
    exact hrest k hkm.ne (hkm.trans hmn).ne
  have hn : n ∈ after := by
    obtain hn | rfl | hn := by simpa using hmem
    · exact absurd hmn (hbefore n hn m (by simp)).asymm
    · exact absurd hmn (lt_irrefl _)
    · exact hn
  have hhigh : after.filterMap f = [b] :=
    filterMap_eq_singleton (hsortedAfter.imp fun h => h.ne) hn hb fun k hk hkn => hrest k (hafter k hk).ne' hkn
  simp [hlow, ha, hhigh]

/-- The deviations of a record's readings, in station order. -/
def recordDeviations (tb : Table) (stations : Vector Station 4) (slots : Vector (Option Slot) 4) : List Deviation :=
  (readingsWithTrim stations slots).map fun x => deviationOf tb x.1 x.2

theorem recordDeviations_inRange (tb : Table) (stations : Vector Station 4) (slots : Vector (Option Slot) 4) :
    ∀ x ∈ recordDeviations tb stations slots, x.InRange := by
  simp only [recordDeviations, List.mem_map]
  rintro _ ⟨x, -, rfl⟩
  exact deviationOf_inRange ..

theorem recordDeviations_of_one {tb : Table} {stations : Vector Station 4} {slots : Vector (Option Slot) 4}
    {m : StationNo} {q : BitVec 8} {r : Reading} (hm : slots[m] = some (.reading q r))
    (hrest : ∀ k, k ≠ m → ∀ q' r', slots[k] ≠ some (.reading q' r')) :
    recordDeviations tb stations slots = [deviationOf tb stations[m].trim r] := by
  rw [recordDeviations, readingsWithTrim_eq, filterMap_eq_singleton (List.nodup_finRange 4) (List.mem_finRange m)
    (trimmedReading_of_reading stations hm) fun k _ hk => trimmedReading_eq_none (hrest k hk)]
  rfl

theorem recordDeviations_of_two {tb : Table} {stations : Vector Station 4} {slots : Vector (Option Slot) 4}
    {m n : StationNo} {q q2 : BitVec 8} {r r2 : Reading} (hmn : m < n) (hm : slots[m] = some (.reading q r))
    (hn : slots[n] = some (.reading q2 r2))
    (hrest : ∀ k, k ≠ m → k ≠ n → ∀ q' r', slots[k] ≠ some (.reading q' r')) :
    recordDeviations tb stations slots = [deviationOf tb stations[m].trim r, deviationOf tb stations[n].trim r2] := by
  rw [recordDeviations, readingsWithTrim_eq, filterMap_finRange_eq_pair hmn (trimmedReading_of_reading stations hm)
    (trimmedReading_of_reading stations hn) fun k hkm hkn => trimmedReading_eq_none (hrest k hkm hkn)]
  rfl

/-! ## The rows of R85 -/

/-- Rows 4 and 5 of R85: the verdict of a record whose readings give these deviations. -/
def verdictFrom (tb : Table) (ds : List Deviation) : Verdict :=
  if unstablePair tb ds then .unstable (combine ds)
  else match binSearch tb (combine ds).d with
    | some i => .bin i (combine ds)
    | none => .out (combine ds)

/-- The first row met decides. -/
theorem decideVerdict_rows (tb : Table) (stations : Vector Station 4) (slots : Vector (Option Slot) 4) :
    decideVerdict tb stations slots =
      if contactFailed slots then .contact
      else if slotExpired slots then .missing
      else if readingInvalid tb stations slots then .invalid
      else verdictFrom tb (recordDeviations tb stations slots) := rfl

/-- A verdict from deviations is UNSTABLE, BIN or OUT, each with the combined deviation, as the pair and the search say. -/
theorem verdictFrom_cases (tb : Table) (ds : List Deviation) :
    (unstablePair tb ds = true ∧ verdictFrom tb ds = .unstable (combine ds)) ∨
    (unstablePair tb ds = false ∧ ∃ i, binSearch tb (combine ds).d = some i ∧ verdictFrom tb ds = .bin i (combine ds)) ∨
    (unstablePair tb ds = false ∧ binSearch tb (combine ds).d = none ∧ verdictFrom tb ds = .out (combine ds)) := by
  unfold verdictFrom
  cases hu : unstablePair tb ds with
  | true => simp
  | false => cases hs : binSearch tb (combine ds).d <;> simp

theorem deviationIn_verdictFrom (tb : Table) (ds : List Deviation) :
    deviationIn (verdictFrom tb ds) = some (combine ds) := by
  obtain ⟨-, h⟩ | ⟨-, i, -, h⟩ | ⟨-, -, h⟩ := verdictFrom_cases tb ds <;> rw [h] <;> rfl

theorem verdictFrom_unstable_iff (tb : Table) (ds : List Deviation) :
    (∃ d, verdictFrom tb ds = .unstable d) ↔ unstablePair tb ds = true := by
  obtain ⟨hu, h⟩ | ⟨hu, i, -, h⟩ | ⟨hu, -, h⟩ := verdictFrom_cases tb ds <;> simp [hu, h]

theorem verdictFrom_ne_special (tb : Table) (ds : List Deviation) :
    verdictFrom tb ds ≠ .contact ∧ verdictFrom tb ds ≠ .missing ∧ verdictFrom tb ds ≠ .invalid := by
  obtain ⟨-, h⟩ | ⟨-, i, -, h⟩ | ⟨-, -, h⟩ := verdictFrom_cases tb ds <;> simp [h]

theorem binSearch_of_verdictFrom_bin {tb : Table} {ds : List Deviation} {i : Fin 24} {d : Deviation}
    (h : verdictFrom tb ds = .bin i d) : binSearch tb d.d = some i := by
  obtain ⟨-, hv⟩ | ⟨-, j, hj, hv⟩ | ⟨-, -, hv⟩ := verdictFrom_cases tb ds <;> rw [hv] at h <;> cases h
  exact hj

theorem binSearch_of_verdictFrom_out {tb : Table} {ds : List Deviation} {d : Deviation}
    (h : verdictFrom tb ds = .out d) : binSearch tb d.d = none := by
  obtain ⟨-, hv⟩ | ⟨-, j, -, hv⟩ | ⟨-, hn, hv⟩ := verdictFrom_cases tb ds <;> rw [hv] at h <;> cases h
  exact hn

section decideVerdict
variable (tb : Table) (stations : Vector Station 4) (slots : Vector (Option Slot) 4)

theorem contactFailed_iff_decideVerdict :
    contactFailed slots = true ↔ decideVerdict tb stations slots = .contact := by
  rw [decideVerdict_rows]
  split_ifs <;> simp_all [verdictFrom_ne_special]

theorem slotExpired_iff_decideVerdict (hc : decideVerdict tb stations slots ≠ .contact) :
    slotExpired slots = true ↔ decideVerdict tb stations slots = .missing := by
  rw [decideVerdict_rows] at hc ⊢
  split_ifs at hc ⊢ <;> simp_all [verdictFrom_ne_special]

theorem readingInvalid_iff_decideVerdict (hc : decideVerdict tb stations slots ≠ .contact)
    (hm : decideVerdict tb stations slots ≠ .missing) :
    readingInvalid tb stations slots = true ↔ decideVerdict tb stations slots = .invalid := by
  rw [decideVerdict_rows] at hc hm ⊢
  split_ifs at hc hm ⊢ <;> simp_all [verdictFrom_ne_special]

/-- Where none of the first three rows decides, the deviations do. -/
theorem decideVerdict_eq_verdictFrom (hc : decideVerdict tb stations slots ≠ .contact)
    (hm : decideVerdict tb stations slots ≠ .missing) (hi : decideVerdict tb stations slots ≠ .invalid) :
    decideVerdict tb stations slots = verdictFrom tb (recordDeviations tb stations slots) := by
  rw [decideVerdict_rows] at hc hm hi ⊢
  split_ifs at hc hm hi ⊢ <;> simp_all

variable {tb stations slots}

/-- A verdict that carries a deviation is decided from the deviations. -/
theorem decideVerdict_eq_verdictFrom_of_deviationIn {d : Deviation}
    (h : deviationIn (decideVerdict tb stations slots) = some d) :
    decideVerdict tb stations slots = verdictFrom tb (recordDeviations tb stations slots) := by
  apply decideVerdict_eq_verdictFrom <;> intro hv <;> simp [hv, deviationIn] at h

theorem deviationIn_decideVerdict_inRange {d : Deviation}
    (h : deviationIn (decideVerdict tb stations slots) = some d) : d.InRange := by
  rw [decideVerdict_eq_verdictFrom_of_deviationIn h, deviationIn_verdictFrom] at h
  cases h
  exact combine_inRange (recordDeviations_inRange tb stations slots)

theorem binSearch_of_decideVerdict_bin {i : Fin 24} {d : Deviation} (h : decideVerdict tb stations slots = .bin i d) :
    binSearch tb d.d = some i := by
  have hv := decideVerdict_eq_verdictFrom_of_deviationIn (d := d) (by rw [h]; rfl)
  exact binSearch_of_verdictFrom_bin (hv.symm.trans h)

theorem binSearch_of_decideVerdict_out {d : Deviation} (h : decideVerdict tb stations slots = .out d) :
    binSearch tb d.d = none := by
  have hv := decideVerdict_eq_verdictFrom_of_deviationIn (d := d) (by rw [h]; rfl)
  exact binSearch_of_verdictFrom_out (hv.symm.trans h)

end decideVerdict

/-! ## The statements -/

/-- Settles O28: the rows of R85 in their order, the deviations of one and of two readings, and the bin search. -/
theorem verdictClassDecided : Obligations.VerdictClassDecided := by
  rintro tb stations slots v rfl
  refine ⟨?contact, ?missing, ?invalid, ?readings, ?bin, ?out⟩
  case contact => rw [← contactFailed_iff, contactFailed_iff_decideVerdict]
  case missing =>
    intro hc
    rw [← slotExpired_iff, slotExpired_iff_decideVerdict tb stations slots hc]
  case invalid =>
    intro hc hm
    rw [← readingInvalid_iff tb stations, readingInvalid_iff_decideVerdict tb stations slots hc hm]
  case readings =>
    rintro hc hm hi m q r x hr rfl
    rw [decideVerdict_eq_verdictFrom tb stations slots hc hm hi]
    refine ⟨fun hrest => ?_, ?_⟩
    · rw [recordDeviations_of_one hr hrest]
      exact ⟨deviationIn_verdictFrom .., fun d hd =>
        Bool.false_ne_true ((verdictFrom_unstable_iff tb [deviationOf tb stations[m].trim r]).mp ⟨d, hd⟩)⟩
    · rintro n q2 r2 y hmn hr2 rfl hrest
      rw [recordDeviations_of_two hmn hr hr2 hrest, verdictFrom_unstable_iff]
      exact ⟨deviationIn_verdictFrom .., by simp [unstablePair]⟩
  case bin =>
    intro i d h
    obtain ⟨hholds, hfirst⟩ := binSearch_eq_some (binSearch_of_decideVerdict_bin h)
    obtain ⟨hnb, hwindow⟩ := (binHolds_iff ..).mp hholds
    exact ⟨hnb, hwindow, fun j hj e he hd =>
      hfirst j hj ((binHolds_iff ..).mpr ⟨(Fin.lt_def.mp hj).trans hnb, e, he, hd⟩)⟩
  case out =>
    intro d h i hnb e he hd
    exact (binSearch_eq_none_iff ..).mp (binSearch_of_decideVerdict_out h) i ((binHolds_iff ..).mpr ⟨hnb, e, he, hd⟩)

/-- Settles O29: every stage rounds as R76 states, and the mean of two clamped deviations stays within the limits. -/
theorem deviationInRange : Obligations.DeviationInRange := by
  refine ⟨fun a b hb => roundHalfAway_rounds a hb, fun n nexp h => rawDeviation_rounds n h, ?raw, ?temperature, ?clamp,
    fun tb stations slots d h => deviationIn_decideVerdict_inRange h⟩
  case raw =>
    intro n nexp hn hlo _
    have hpos : 0 < nexp := by omega
    exact ⟨⟨neg_limit_le_rawDeviation n hpos, rawDeviation_le_of_valid hn hlo⟩, rawDeviation_zero hpos,
      rawDeviation_largest⟩
  case temperature =>
    refine fun tcr temp => ⟨?_, ?_, tempCorrection_bounds⟩
    · rintro x rfl
      exact tempCorrection_rounds tcr x
    · rintro rfl
      exact tempCorrection_none tcr
  case clamp =>
    rintro tb trim d3 r rfl
    exact ⟨clampD_eq_ite _, by rw [← clampD_ne_self_iff, ← bne_iff_ne]; rfl, Option.isNone_iff_eq_none⟩

end Sys2Proof.Machine
end

section
/-!
PROOF. The classification event: what it takes from the slots and the bound table, the room of a lane and its reservation,
the candidates of a route in their order, and the statement about them.
-/

namespace Sys2Proof.Machine

/-! ## The slots and the bound table (R27, R109, R208) -/

theorem allResolved_iff (slots : Vector (Option Slot) 4) :
    allResolved slots = true ↔ ∀ (m : StationNo) (x : Slot), slots[m] = some x → isResolved x = true := by
  simp only [allResolved, List.all_eq_true, Prod.forall, mem_slotList_iff]

theorem tallyClass_val (v : Verdict) : (tallyClass v).val = classEntry v := by cases v <;> rfl

theorem routeFor_eq_handedRoute (tb : Table) (v : Verdict) : routeFor tb v = handedRoute tb v := by
  cases v with
  | bin i d => cases h : tb.entries[i] <;> simp [routeFor, handedRoute, h]
  | _ => rfl

/-! ## Room and reservation (R120, R121, R123, R124) -/

theorem hasRoom_iff (L : Lane) :
    hasRoom L = true ↔ L.attr = .opened ∧ (L.capacity = 0 ∨ L.delivered + L.reserved < L.capacity) := by
  simp [hasRoom]

theorem laneFull_iff (L : Lane) : laneFull L = true ↔ FullLane L := by
  simp [laneFull, FullLane]

theorem laneFull_of_hasRoom {L : Lane} (h : hasRoom L = true) : laneFull L = false := by
  obtain ⟨-, hcap⟩ := (hasRoom_iff L).mp h
  rw [← Bool.not_eq_true, laneFull_iff]
  rintro ⟨hpos, hsum⟩
  omega

/-- A lane with room is not FULL, so a reservation that makes it FULL always sets the flag. -/
theorem reserve_of_hasRoom {l : LaneNo} {s : State} (h : hasRoom s.lanes[l] = true) :
    reserve l s = if FullLane (modLane l reserveOn s).lanes[l] then raise .laneFull (modLane l reserveOn s)
      else modLane l reserveOn s := by
  simp only [reserve, laneFull_of_hasRoom h, Bool.not_false, Bool.true_and, laneFull_iff]

/-! ## The candidates of a route (R123) -/

theorem candidates_eq (s : State) (d : LaneNo) :
    candidates s d = { lane := d, kind := .direct } ::
      (((s.lanes[d].setup.partner.filter (· ≠ d)).toList.map fun q => { lane := q, kind := .partner }) ++
        ((s.overflow.filter fun o => o ≠ d ∧ s.lanes[d].setup.partner ≠ some o).toList.map
          fun o => { lane := o, kind := .overflow })) := by
  unfold candidates
  generalize s.lanes[d].setup.partner = partner
  dsimp only
  congr 2
  · cases partner with
    | none => rfl
    | some q => by_cases hq : q = d <;> simp [Option.filter, hq]
  · cases s.overflow with
    | none => rfl
    | some o =>
      by_cases hd : o = d <;> by_cases hp : partner = some o <;> simp [Option.filter, hd, hp]

theorem mem_candidates_iff (s : State) (d : LaneNo) (c : Target) :
    c ∈ candidates s d ↔ c = { lane := d, kind := .direct } ∨
      (∃ q, (s.lanes[d].setup.partner = some q ∧ q ≠ d) ∧ { lane := q, kind := .partner } = c) ∨
      ∃ o, (s.overflow = some o ∧ o ≠ d ∧ s.lanes[d].setup.partner ≠ some o) ∧ { lane := o, kind := .overflow } = c := by
  simp [candidates_eq]

theorem candidates_head (s : State) (d : LaneNo) : (candidates s d).head? = some { lane := d, kind := .direct } := rfl

theorem candidates_lanes_nodup (s : State) (d : LaneNo) : ((candidates s d).map (·.lane)).Nodup := by
  have hlanes : (candidates s d).map (·.lane) = d :: ((s.lanes[d].setup.partner.filter (· ≠ d)).toList ++
      (s.overflow.filter fun o => o ≠ d ∧ s.lanes[d].setup.partner ≠ some o).toList) := by
    simp [candidates_eq, Function.comp_def]
  have hnodup : ∀ x : Route, x.toList.Nodup := fun x => by cases x <;> simp
  rw [hlanes, List.nodup_cons, List.nodup_append]
  have hapart : ∀ q ∈ (s.lanes[d].setup.partner.filter (· ≠ d)).toList,
      ∀ o ∈ (s.overflow.filter fun o => o ≠ d ∧ s.lanes[d].setup.partner ≠ some o).toList, q ≠ o := by
    simp +contextual
  exact ⟨by simp, hnodup _, hnodup _, hapart⟩

theorem candidates_getLast {s : State} {d o : LaneNo} (ho : s.overflow = some o) (hd : o ≠ d)
    (hp : s.lanes[d].setup.partner ≠ some o) :
    (candidates s d).getLast? = some { lane := o, kind := .overflow } := by
  have hkept : s.overflow.filter (fun o => o ≠ d ∧ s.lanes[d].setup.partner ≠ some o) = some o := by
    rw [ho, Option.filter_some, if_pos (by simpa using ⟨hd, hp⟩)]
  rw [candidates_eq, hkept, ← List.cons_append]
  exact List.getLast?_concat

/-- The candidates depend on the partners and the overflow designation only. -/
theorem candidates_congr {s t : State} (hl : s.lanes = t.lanes) (ho : s.overflow = t.overflow) (d : LaneNo) :
    candidates s d = candidates t d := by
  simp only [candidates, hl, ho]

/-! ## The classification event (R33, R108, R123) -/

theorem resolveRoute_none (k : PocketNo) (p : Part) (v : Verdict) (t : State) :
    resolveRoute k p v none t = setRecord k (some { p with st := .stranded v none .noRoute }) t := rfl

/-- The router takes the first candidate with room, and strands the record where none has room. -/
theorem resolveRoute_some_cases (k : PocketNo) (p : Part) (v : Verdict) (d : LaneNo) (t : State) :
    ((∀ c ∈ candidates t d, hasRoom t.lanes[c.lane] = false) ∧
      resolveRoute k p v (some d) t = setRecord k (some { p with st := .stranded v none .noLane }) t) ∨
    ∃ earlier c later, candidates t d = earlier ++ c :: later ∧
      (∀ x ∈ earlier, hasRoom t.lanes[x.lane] = false) ∧ hasRoom t.lanes[c.lane] = true ∧
      resolveRoute k p v (some d) t = setRecord k (some { p with st := .routed v c }) (reserve c.lane t) := by
  cases hfind : (candidates t d).find? (fun c => hasRoom t.lanes[c.lane]) with
  | none => exact .inl ⟨by simpa using hfind, by simp only [resolveRoute, hfind]⟩
  | some c =>
    obtain ⟨hroom, earlier, later, hsplit, hearlier⟩ := List.find?_eq_some_iff_append.mp hfind
    exact .inr ⟨earlier, c, later, hsplit, by simpa using hearlier, hroom, by simp only [resolveRoute, hfind]⟩

/-- The state in which the router meets a classified record: its bank released, its class counted and the MISSING flag set
for that class (R108). -/
def classCounted (p : Part) (v : Verdict) (s : State) : State :=
  (if v = .missing then raise .missing else id) (tallyCount (tallyClass v) (unbind p.bank s))

theorem classCounted_lanes (p : Part) (v : Verdict) (s : State) : (classCounted p v s).lanes = s.lanes := by
  unfold classCounted
  split <;> simp

theorem classCounted_overflow (p : Part) (v : Verdict) (s : State) : (classCounted p v s).overflow = s.overflow := by
  unfold classCounted
  split <;> simp

theorem classify_of_resolved {k : PocketNo} {p : Part} {s : State} {v : Verdict} (hp : s.ring[k] = some p)
    (hawait : p.st = .await) (hslots : allResolved p.slots = true)
    (hv : v = decideVerdict (bankAt s.banks p.bank).table s.stations p.slots) :
    classify k s = resolveRoute k p v (handedRoute (bankAt s.banks p.bank).table v) (classCounted p v s) := by
  subst hv
  unfold classify classCounted
  simp only [hp, hawait, hslots, and_self, if_true, routeFor_eq_handedRoute, ite_apply, id]

/-- Settles O27: the event is the router's choice over the candidates, which the counts before it leave as they stood. -/
theorem classificationEvent : Obligations.ClassificationEvent := by
  refine ⟨?event, ?order, hasRoom_iff⟩
  case event =>
    intro k p s v n hp hawait hslots hv hn
    obtain rfl : n = tallyClass v := Fin.ext (hn.trans (tallyClass_val v).symm)
    have hevent := classify_of_resolved hp hawait ((allResolved_iff p.slots).mpr hslots) hv
    refine ⟨classCounted p v s, rfl, fun hroute => ?_, fun d hroute => ?_⟩
    · rw [hevent, hroute, resolveRoute_none]
    · have hlanes := classCounted_lanes p v s
      have hcases := resolveRoute_some_cases k p v d (classCounted p v s)
      rw [candidates_congr hlanes (classCounted_overflow p v s) d, hlanes, ← hroute, ← hevent] at hcases
      obtain hstrand | ⟨earlier, c, later, hsplit, hearlier, hroom, hrouted⟩ := hcases
      · exact .inl hstrand
      · refine .inr ⟨earlier, c, later, hsplit, hearlier, hroom, _, rfl, ?_⟩
        rw [hrouted, reserve_of_hasRoom (by rwa [hlanes])]
        rfl
  case order =>
    intro s d
    refine ⟨candidates_lanes_nodup s d, candidates_head s d, fun q hq hqd => ?_, fun o ho hod hpo =>
      candidates_getLast ho hod hpo, fun c hc => ?_⟩
    · exact (mem_candidates_iff ..).mpr (.inr (.inl ⟨q, ⟨hq, hqd⟩, rfl⟩))
    · obtain rfl | ⟨q, ⟨hq, -⟩, rfl⟩ | ⟨o, ⟨ho, -⟩, rfl⟩ := (mem_candidates_iff ..).mp hc
      · exact .inl rfl
      · exact .inr (.inl ⟨rfl, hq⟩)
      · exact .inr (.inr ⟨rfl, ho⟩)

end Sys2Proof.Machine
end

section
/-!
PROOF. What a command can do, said once. `Act` lists the indivisible acts of the part, `Setting` what a management frame does
to the setup, and `Ran` how a command is made of them; the statements about every command are proved over these cases.
-/

namespace Sys2Proof.Machine

/-! ## The acts -/

/-- A change of a station record that leaves the station's setup (R52) alone. -/
def KeepsStationSetup (g : Station → Station) : Prop :=
  ∀ x, g x = { x with seq := (g x).seq, temp := (g x).temp, expired := (g x).expired, pulseEnd := (g x).pulseEnd }

/-- An act at the links, the event block or the counters: it leaves the turret and its records alone. -/
inductive LinkAct : State → State → Prop where
  | opened (s : State) : LinkAct s (opened s)
  | admitHanded (s : State) : LinkAct s (admitHanded s)
  | raise (fl : Flag) (s : State) : LinkAct s (raise fl s)
  | counters (v : Counters) (s : State) : LinkAct s (s.setCounters v)
  | events (v : Events) (s : State) : LinkAct s (s.setEvents v)
  | pins (v : Pins) (s : State) : LinkAct s (s.setPins v)
  | tx (v : Transmitter) (s : State) : LinkAct s (s.setTx v)
  | choice (n : Nat) (s : State) : LinkAct s (s.setChoice n)
  | startFrame (s : State) (h : s.rx.st = .waiting) : LinkAct s (s.setRx (startFrame s.rx))
  | takeHeader (s : State) : LinkAct s (takeHeader s)
  | takeComplete (s : State) : LinkAct s (takeComplete s)
  | endFrame (s : State) : LinkAct s (endFrame s)
  | sampleBit (d : Bool) (s : State) (hh : headerDue s = false) (hf : frameDue s = false) : LinkAct s (sampleBit d s)

/-- An act at the turret that is not a load: at the tracker, a record, a station, a lane or the mask. -/
inductive TurretAct : State → State → Prop where
  | station (m : StationNo) (g : Station → Station) (s : State) (hg : KeepsStationSetup g) :
      TurretAct s (modStation m g s)
  | slot (k : PocketNo) (p : Part) (m : StationNo) (x : Slot) (s : State) (hp : s.ring[k] = some p)
      (ha : p.st = .await) : TurretAct s (setRecord k (some { p with slots := p.slots.set m (some x) }) s)
  | classify (k : PocketNo) (s : State) : TurretAct s (classify k s)
  | rest (l : LaneNo) (r : Lane → Rest) (s : State) :
      TurretAct s (modLane l (fun L => { L with output := .inactive (r L) }) s)
  | windowEnd (l : LaneNo) (s : State) : TurretAct s (takeWindowEnd l s)
  | drop (l : LaneNo) (s : State) : TurretAct s (dropEdge l s)
  | passCheck (l : LaneNo) (s : State) : TurretAct s (passCheck l s)
  | departure (s : State) : TurretAct s (departure s)
  | fire (e : Option Travel) (l : LaneNo) (s : State) (ht : s.trk.st = .tracking) : TurretAct s (firePhase e l s)
  | purgeOne (reports : Bool) (k : PocketNo) (s : State) : TurretAct s (purgeOne reports k s)
  | addReason (a b c : Bool) (s : State) (h : (a || b || c) = true) : TurretAct s (addReason a b c s)
  | exitMask (s : State) : TurretAct s (exitMask s)
  | clean (n : Nat) (s : State) (hm : s.mask.masked = true) (hn : n ≤ 15) :
      TurretAct s (s.setMask { s.mask with clean := n })
  | track (v : Tracker) (s : State) (hst : v.st = s.trk.st)
      (hpos : PositionInRange s → PositionInRange (s.setTrk v)) : TurretAct s (s.setTrk v)
  | home (s : State) (h : s.trk.st = .homing) : TurretAct s (home s)

/-- One act of the running part that is not a load: none writes the settings, the setup or a bank's table. -/
inductive Act (s t : State) : Prop where
  | link (h : LinkAct s t)
  | turret (h : TurretAct s t)

/-- Acts one after the other. -/
abbrev Acts : State → State → Prop := Relation.ReflTransGen Act

/-- An act of the running part, a load among them. -/
inductive Motion : State → State → Prop where
  | act {s t : State} (h : Act s t) : Motion s t
  | load (s : State) : Motion s (loadSample s)

/-- Acts and loads one after the other. -/
abbrev Motions : State → State → Prop := Relation.ReflTransGen Motion

theorem LinkAct.act {s t : State} (h : LinkAct s t) : Act s t := .link h

theorem TurretAct.act {s t : State} (h : TurretAct s t) : Act s t := .turret h

theorem Act.acts {s t : State} (h : Act s t) : Acts s t := .single h

theorem LinkAct.acts {s t : State} (h : LinkAct s t) : Acts s t := h.act.acts

theorem TurretAct.acts {s t : State} (h : TurretAct s t) : Acts s t := h.act.acts

theorem Acts.motions {s t : State} (h : Acts s t) : Motions s t := by
  induction h with
  | refl => exact .refl
  | tail _ hlast ih => exact ih.tail (.act hlast)

/-- What holds of the state and is kept by each act is kept by the acts. -/
theorem Acts.keeps {P : State → Prop} (hact : ∀ s t, Act s t → P s → P t) {s t : State} (h : Acts s t) (hs : P s) :
    P t := by
  induction h with
  | refl => exact hs
  | tail _ hlast ih => exact hact _ _ hlast ih

/-- What holds of the state and is kept by each act and each load is kept by acts and loads. -/
theorem Motions.keeps {P : State → Prop} (hact : ∀ s t, Act s t → P s → P t) (hload : ∀ s, P s → P (loadSample s))
    {s t : State} (h : Motions s t) (hs : P s) : P t := by
  induction h with
  | refl => exact hs
  | tail _ hlast ih =>
    cases hlast with
    | act hact' => exact hact _ _ hact' ih
    | load => exact hload _ ih

/-- A fold whose steps are chains of a relation is a chain of it. -/
theorem foldl_chain {α : Type} {r : State → State → Prop} {g : State → α → State}
    (h : ∀ t x, Relation.ReflTransGen r t (g t x)) (xs : List α) (s : State) :
    Relation.ReflTransGen r s (xs.foldl g s) := by
  induction xs generalizing s with
  | nil => exact .refl
  | cons x xs ih => exact (h s x).trans (ih (g s x))

/-- A fold whose steps are chains of a relation where a kept condition holds. -/
theorem foldl_chain_of {α : Type} {r : State → State → Prop} {g : State → α → State} {I : State → Prop}
    (hI : ∀ t x, I t → I (g t x)) (h : ∀ t x, I t → Relation.ReflTransGen r t (g t x)) (xs : List α) (s : State)
    (hs : I s) : Relation.ReflTransGen r s (xs.foldl g s) := by
  induction xs generalizing s with
  | nil => exact .refl
  | cons x xs ih => exact (h s x hs).trans (ih (g s x) (hI s x hs))

/-! ## Points, purge and SLIP as acts -/

theorem writeSlot_acts (k : PocketNo) (m : StationNo) (x : Slot) (s : State) : Acts s (writeSlot k m x s) := by
  unfold writeSlot
  split
  · exact .refl
  · next p hp =>
    split
    · next ha => exact (TurretAct.slot k p m x s hp ha).acts.trans (TurretAct.classify k _).acts
    · exact .refl

theorem takeDeadline_acts (m : StationNo) (s : State) : Acts s (takeDeadline m s) := by
  unfold takeDeadline
  split
  · exact .refl
  · next k _ =>
    split
    · exact .refl
    · split
      · split
        · exact (TurretAct.station m _ s fun _ => rfl).acts.trans (writeSlot_acts ..)
        · exact writeSlot_acts ..
        · exact .refl
      · exact .refl

theorem takeTriggerEnd_acts (m : StationNo) (s : State) : Acts s (takeTriggerEnd m s) := by
  unfold takeTriggerEnd
  split
  · exact (TurretAct.station m _ s fun _ => rfl).acts
  · exact .refl

theorem takeClose_acts (l : LaneNo) (s : State) : Acts s (takeClose l s) := by
  unfold takeClose
  split
  · split
    · exact (TurretAct.rest l _ s).acts
    · exact .refl
  · exact .refl

theorem takeRestPoint_acts (l : LaneNo) (s : State) : Acts s (takeRestPoint l s) := by
  unfold takeRestPoint
  split
  · split
    · exact (TurretAct.rest l (fun _ => .rested) s).acts
    · exact .refl
  · exact .refl

theorem finishLane_acts (l : LaneNo) (s : State) : Acts s (finishLane l s) :=
  (((takeClose_acts l s).tail (LinkAct.opened _).act).tail (TurretAct.windowEnd l _).act).trans (takeRestPoint_acts l _)

theorem takeTravelPoints_acts (s : State) : Acts s (takeTravelPoints s) :=
  (foldl_chain (fun t m => takeTriggerEnd_acts m t) allStations s).trans
    (foldl_chain (fun t l => ((takeClose_acts l t).tail (TurretAct.windowEnd l _).act).trans (takeRestPoint_acts l _)) allLanes _)

theorem takePoints_acts (s : State) : Acts s (takePoints s) :=
  ((foldl_chain (fun t m => (LinkAct.opened t).acts.trans (takeDeadline_acts m _)) allStations s).trans
    (foldl_chain (fun t m => takeTriggerEnd_acts m t) allStations _)).trans
    (foldl_chain (fun t l => finishLane_acts l t) allLanes _)

theorem purge_acts (load : Nat) (reports : Bool) (s : State) : Acts s (purge load reports s) :=
  foldl_chain (fun t k => (TurretAct.purgeOne reports k t).acts) _ s

theorem motionFault_acts (w : MotionFault) (s : State) : Acts s (motionFault w s) := by
  cases w with
  | slip => exact (TurretAct.addReason true false false s rfl).acts
  | reverse => exact (TurretAct.addReason false true false s rfl).acts

/-- A move of the tracker within its ranges, its state unchanged, is an act. -/
theorem track_acts (s : State) (v : Tracker) (hst : v.st = s.trk.st)
    (hv : PositionInRange s → v.pos < s.geo.c ∧ (s.trk.st = .tracking → v.lag < s.geo.c)) : Acts s (s.setTrk v) :=
  (TurretAct.track v s hst fun h => ⟨h.1, h.2.1, h.2.2.1, (hv h).1, fun ht => (hv h).2 (hst ▸ ht)⟩).acts

/-- A move of the tracker that keeps pos and the lag is an act. -/
theorem track_acts_still (s : State) (v : Tracker) (hst : v.st = s.trk.st) (hpos : v.pos = s.trk.pos)
    (hlag : v.lag = s.trk.lag) : Acts s (s.setTrk v) :=
  track_acts s v hst fun h => ⟨hpos ▸ h.2.2.2.1, fun ht => hlag ▸ h.2.2.2.2 ht⟩

theorem slip_acts (load : Nat) (s : State) : Acts s (slip load s) := by
  have htrack : Acts s (s.setTrk { s.trk with lag := 0, indexRef := s.trk.travel, armed := true }) :=
    track_acts s _ rfl fun ⟨_, ⟨hc, _⟩, _, hpos, _⟩ => ⟨hpos, fun _ => show 0 < s.geo.c by omega⟩
  exact ((htrack.trans (purge_acts load true _)).trans (motionFault_acts .slip _)).tail (LinkAct.raise .slip _).act

theorem takeMissingIndex_acts (s : State) : Acts s (takeMissingIndex s) := by
  unfold takeMissingIndex
  split
  · exact (LinkAct.opened s).acts.trans (slip_acts ..)
  · exact .refl

theorem settled_acts (s : State) : Acts s (settled s) :=
  ((takePoints_acts s).trans (takeMissingIndex_acts _)).tail (LinkAct.opened _).act

/-! ## Motion as acts and loads -/

theorem triggerPhase_acts (e : Option Travel) (m : StationNo) (s : State) : Acts s (triggerPhase e m s) := by
  unfold triggerPhase
  dsimp only
  split
  · split
    · exact .refl
    · split
      · split
        · exact writeSlot_acts ..
        · exact (writeSlot_acts ..).tail (TurretAct.station m _ _ fun _ => rfl).act
      · exact .refl
  · exact .refl

theorem contestedDeadlines_acts (s : State) : Acts s (contestedDeadlines s) := by
  unfold contestedDeadlines
  split
  · dsimp only
    split
    · exact (LinkAct.choice _ s).acts.trans (foldl_chain (fun t m => takeDeadline_acts m t) allStations _)
    · exact (LinkAct.choice _ s).acts
  · exact .refl

theorem pitchEvent_acts (s : State) : Acts s (pitchEvent s) :=
  ((contestedDeadlines_acts s).trans (foldl_chain (fun t l => (TurretAct.passCheck l t).acts) allLanes _)).tail (TurretAct.departure _).act

/-- The phase event after the load sample: the triggers and the fires. -/
def afterLoad (e : Option Travel) (s : State) : State :=
  allLanes.foldl (fun t l => firePhase e l t) (allStations.foldl (fun t m => triggerPhase e m t) s)

theorem phaseEvent_eq (e : Option Travel) (s : State) : phaseEvent e s = afterLoad e (loadSample s) := rfl

theorem afterLoad_acts (e : Option Travel) (s : State) (ht : s.trk.st = .tracking) : Acts s (afterLoad e s) := by
  have htriggers : (allStations.foldl (fun t m => triggerPhase e m t) s).trk = s.trk :=
    foldl_keeps State.trk _ (fun t m => by simp) _ _
  exact (foldl_chain (fun t m => triggerPhase_acts e m t) allStations s).trans
    (foldl_chain_of (I := fun t => t.trk.st = .tracking) (fun t l h => by simpa using h)
      (fun t l h => (TurretAct.fire e l t h).acts) allLanes _ ((congrArg Tracker.st htriggers).trans ht))

theorem phaseEvent_motions (e : Option Travel) (s : State) (ht : s.trk.st = .tracking) : Motions s (phaseEvent e s) := by
  rw [phaseEvent_eq]
  exact (Relation.ReflTransGen.single (Motion.load s)).trans (afterLoad_acts e _ (by simpa using ht)).motions

/-- The mark position moved on by one, before the events of the position. -/
def markOn (s : State) : State :=
  s.setTrk { s.trk with pos := (s.trk.pos + 1) % s.geo.c, travel := s.trk.travel + 1, armed := true }

theorem advance_eq (e : Option Travel) (s : State) :
    advance e s = phaseEvent e (if phase (markOn s) = 0 then pitchEvent (markOn s) else markOn s) := rfl

theorem markOn_acts (s : State) : Acts s (markOn s) := by
  unfold markOn
  refine track_acts s _ ?_ ?_
  · rfl
  · exact fun ⟨_, ⟨hc, _⟩, _, _, hlag⟩ => ⟨Nat.mod_lt _ (by omega), hlag⟩

theorem advance_motions (e : Option Travel) (s : State) (ht : s.trk.st = .tracking) : Motions s (advance e s) := by
  rw [advance_eq]
  refine (markOn_acts s).motions.trans ?_
  split
  · exact (pitchEvent_acts _).motions.trans (phaseEvent_motions e _ (by simpa [markOn] using ht))
  · exact phaseEvent_motions e _ ht

@[simp] theorem advance_st (e : Option Travel) (s : State) : (advance e s).trk.st = s.trk.st := by
  rw [advance_eq]
  split <;> simp [markOn]

theorem advanceSpan_motions (e : Travel) (n : Nat) (s : State) (ht : s.trk.st = .tracking) :
    Motions s (advanceSpan e n s) := by
  induction n generalizing s with
  | zero => exact .refl
  | succ n ih =>
    exact ((advance_motions (some e) s ht).trans (takeTravelPoints_acts _).motions).trans (ih _ (by simpa using ht))

theorem advanceSpan_st (e : Travel) (n : Nat) (s : State) : (advanceSpan e n s).trk.st = s.trk.st := by
  induction n generalizing s with
  | zero => rfl
  | succ n ih => simp [advanceSpan, ih]

theorem cleanRevolution_acts (s : State) : Acts s (cleanRevolution s) := by
  unfold cleanRevolution
  split
  · next hm =>
    dsimp only
    have hacts : Acts s (s.setMask { s.mask with clean := satInc 15 s.mask.clean }) := by
      by_cases h : s.mask.clean < 15
      · exact (TurretAct.clean _ s hm (satInc_le h.le)).acts
      · rw [satInc, if_neg h]
        exact .refl
    split
    · exact hacts.tail (TurretAct.exitMask _).act
    · exact hacts
  · exact .refl

theorem indexCounts_acts (b : Bool) (s : State) : Acts s (indexCounts b s) := by
  unfold indexCounts
  split
  · exact (track_acts_still s _ (by rfl) (by rfl) (by rfl)).trans (cleanRevolution_acts _)
  · exact .refl

theorem realignBack_acts (n : Nat) (s : State) : Acts s (realignBack n s) := by
  unfold realignBack
  split
  · refine (track_acts s _ ?_ ?_).trans (slip_acts ..)
    · rfl
    · exact fun h => ⟨h.2.2.1, h.2.2.2.2⟩
  · next hlag =>
    refine (track_acts s _ ?_ ?_).trans (indexCounts_acts ..)
    · rfl
    · exact fun h => ⟨h.2.2.1, fun _ => Nat.lt_of_not_le hlag⟩

theorem realignForward_motions (n : Nat) (s : State) (ht : s.trk.st = .tracking) : Motions s (realignForward n s) := by
  unfold realignForward
  split
  · refine Acts.motions ((track_acts s _ ?_ ?_).trans (indexCounts_acts ..))
    · rfl
    · exact fun h => ⟨h.2.2.1, fun _ => Nat.lt_of_le_of_lt (Nat.sub_le ..) (h.2.2.2.2 ht)⟩
  · refine ((track_acts s _ ?_ ?_).motions.trans (advanceSpan_motions _ _ _ ?_)).trans (indexCounts_acts ..).motions
    · rfl
    · exact fun ⟨_, ⟨hc, _⟩, _⟩ => ⟨Nat.mod_lt _ (by omega), fun _ => show 0 < s.geo.c by omega⟩
    · exact ht

theorem indexTracking_motions (s : State) (ht : s.trk.st = .tracking) : Motions s (indexTracking s) := by
  have hcap : Acts s (s.setTrk { s.trk with capture := s.trk.pos }) := track_acts_still s _ rfl rfl rfl
  unfold indexTracking
  dsimp only
  split
  · split
    · exact Acts.motions (hcap.trans (realignBack_acts ..))
    · exact hcap.motions.trans (realignForward_motions _ _ ht)
  · refine Acts.motions (hcap.trans ((track_acts _ _ ?_ ?_).trans (slip_acts ..)))
    · rfl
    · exact fun h => ⟨h.2.2.1, h.2.2.2.2⟩

theorem forwardTracking_motions (s : State) (ht : s.trk.st = .tracking) : Motions s (forwardTracking s) := by
  unfold forwardTracking
  split
  · refine (track_acts s _ ?_ ?_).motions
    · rfl
    · exact fun ⟨_, ⟨hc, _⟩, _, _, hlag⟩ =>
        ⟨Nat.mod_lt _ (by omega), fun ht => Nat.lt_of_le_of_lt (Nat.sub_le ..) (hlag ht)⟩
  · exact advance_motions none s ht

theorem raiseReverse_acts (s : State) : Acts s (raiseReverse s) := by
  refine Relation.ReflTransGen.tail
    ((track_acts_still s _ (by rfl) (by rfl) (by rfl)).trans (motionFault_acts .reverse _)) (LinkAct.raise .reverse _).act

theorem posUp_lt {s : State} (h : PositionInRange s) : posUp s < s.geo.c := Nat.mod_lt _ (by have := h.2.1.1; omega)

theorem posDown_lt {s : State} (h : PositionInRange s) : posDown s < s.geo.c :=
  Nat.mod_lt _ (by have := h.2.1.1; omega)

theorem backwardTracking_acts (s : State) : Acts s (backwardTracking s) := by
  unfold backwardTracking
  split
  · refine (track_acts s _ ?_ ?_).trans (slip_acts ..)
    · rfl
    · exact fun h => ⟨posDown_lt h, h.2.2.2.2⟩
  · next hlag =>
    have htrack : Acts s (s.setTrk { s.trk with pos := posDown s, lag := s.trk.lag + 1 }) :=
      track_acts s _ rfl fun h => ⟨posDown_lt h, fun _ => Nat.lt_of_not_le hlag⟩
    dsimp only
    split
    · exact htrack.trans (raiseReverse_acts _)
    · exact htrack

theorem encoderChange_motions (a b : Bool) (s : State) : Motions s (encoderChange a b s) := by
  have hquad : Acts s (s.setTrk { s.trk with quadA := a, quadB := b }) := track_acts_still s _ rfl rfl rfl
  unfold encoderChange
  dsimp only
  split
  · exact hquad.motions
  · split
    · next ht => exact hquad.motions.trans (forwardTracking_motions _ (by simpa [isTracking] using ht))
    · exact Acts.motions (hquad.trans (track_acts _ _ (by rfl) fun h => ⟨posUp_lt h, h.2.2.2.2⟩))
  · split
    · exact Acts.motions (hquad.trans (backwardTracking_acts _))
    · exact Acts.motions (hquad.trans (track_acts _ _ (by rfl) fun h => ⟨posDown_lt h, h.2.2.2.2⟩))

end Sys2Proof.Machine
end

section
/-!
PROOF. The commands as acts: what the management frames set, and the one case analysis over the commands.
-/

namespace Sys2Proof.Machine

/-! ## What management frames set -/

/-- What an accepted management frame does beyond the acts of the running part: it writes the setup, a table, a lane's
attributes or counts, the mask's mode, the tally or the format, or it starts, stops or pauses the run. -/
inductive Setting : State → State → Prop where
  | geometry (f : Frame) (g : Geometry) (s : State) (hl : s.banks.lock = false) (hi : s.trk.st = .idle)
      (hg : geometryFields f = some g) : Setting s ((s.setGeo g).setTrk { s.trk with pos := 0 })
  | station (m : StationNo) (g : Station → Station) (s : State) (hl : s.banks.lock = false) (hi : s.trk.st = .idle) :
      Setting s (modStation m g s)
  | laneSetup (l : LaneNo) (u : LaneSetup) (s : State) (hl : s.banks.lock = false) (hi : s.trk.st = .idle) :
      Setting s (modLane l (fun L => { L with setup := u }) s)
  | laneState (o : LaneOrder) (s : State) (hcap : o.capacity ≤ 65535)
      (h : ¬ (s.trk.st ≠ .idle ∧ s.lanes[o.lane].attr = .disabled ∧ o.attr ≠ .disabled ∧
        laneClearsStations s o.lane = false)) : Setting s (applyLaneOrder o s).1
  | laneEmpty (l : LaneNo) (s : State) : Setting s (modLane l (fun L => { L with delivered := 0 }) s)
  | mode (auto : Bool) (n : Nat) (s : State) (h1 : 1 ≤ n) (h15 : n ≤ 15) :
      Setting s (s.setMask { s.mask with auto := auto, n := n })
  | tallyClear (s : State) (hl : s.banks.lock = false) :
      Setting s (s.setTally ((Vector.replicate 49 0).set tallyLoaded (liveRecords s)))
  | format (two : Bool) (s : State) (hl : s.banks.lock = false) :
      Setting s (s.setReport { s.report with formatTwo := two, formatMark := true })
  | write (t : Table) (s : State) (hl : s.banks.lock = false) (hu : (stagingBank s.banks).inUse = 0) :
      Setting s (writeStaging t s)
  | swap (s : State) (hl : s.banks.lock = false) (hc : tableComplete (stagingBank s.banks).table = true) :
      Setting s (swapBanks s)
  | lock (s : State) : Setting s (s.setBanks { s.banks with lock := true })
  | start (s : State) (hi : s.trk.st = .idle) (hc : firstFailed s = none) :
      Setting s (s.setTrk { s.trk with st := .homing })
  | stop (s : State) : Setting s (announceIdle true s)
  | pause (b : Bool) (s : State) : Setting s (s.setLoadPause b)

/-- What the owner of a management frame does: acts, or a setting. -/
def Effect (s t : State) : Prop := Acts s t ∨ Setting s t

theorem Effect.refl (s : State) : Effect s s := .inl .refl

theorem Setting.effect {s t : State} (h : Setting s t) : Effect s t := .inr h

theorem LinkAct.effect {s t : State} (h : LinkAct s t) : Effect s t := .inl h.acts

theorem TurretAct.effect {s t : State} (h : TurretAct s t) : Effect s t := .inl h.acts

theorem unlessLocked_effect {s : State} {go : State × Answer} (h : s.banks.lock = false → Effect s go.1) :
    Effect s (unlessLocked s go).1 := by
  unfold unlessLocked
  split
  · exact (LinkAct.raise .lockViolation s).effect
  · next hl => exact h (by simpa using hl)

theorem inIdle_effect {s : State} {go : State × Answer}
    (h : s.banks.lock = false → s.trk.st = .idle → Effect s go.1) : Effect s (inIdle s go).1 := by
  refine unlessLocked_effect fun hl => ?_
  split
  · next hi => exact h hl hi
  · exact .refl s

theorem bankWrite_effect (s : State) (edits : Bool) (write : Option (Table → Table)) :
    Effect s (bankWrite s edits write).1 := by
  refine unlessLocked_effect fun hl => ?_
  split
  · exact .refl s
  · next hu =>
    split
    · exact .refl s
    · split
      · exact .refl s
      · exact (Setting.write _ s hl (by omega)).effect

/-! ## The owners' acts -/

theorem actGeometry_effect (f : Frame) (s : State) : Effect s (actGeometry f s).1 := by
  refine inIdle_effect fun hl hi => ?_
  split
  · exact .refl s
  · next g hg => exact (Setting.geometry f g s hl hi hg).effect

theorem actStation_effect (f : Frame) (s : State) : Effect s (actStation f s).1 := by
  refine inIdle_effect fun hl hi => ?_
  split
  · exact .refl s
  · split
    · exact (Setting.station _ _ s hl hi).effect
    · exact .refl s

theorem actLaneSetup_effect (f : Frame) (s : State) : Effect s (actLaneSetup f s).1 := by
  refine inIdle_effect fun hl hi => ?_
  split
  · exact .refl s
  · exact (Setting.laneSetup _ _ s hl hi).effect

theorem actLaneState_effect (f : Frame) (s : State) : Effect s (actLaneState f s).1 := by
  unfold actLaneState
  split
  · exact .refl s
  · next o ho =>
    split
    · exact .refl s
    · next h =>
      have hcap : o.capacity ≤ 65535 := by
        obtain ⟨-, -, -, hcap⟩ := (laneOrderOf_eq_some f o).mp ho
        have := (word f 3).isLt
        omega
      exact (Setting.laneState o s hcap h).effect

theorem actLaneEmpty_effect (f : Frame) (s : State) : Effect s (actLaneEmpty f s).1 := by
  unfold actLaneEmpty
  split
  · exact .refl s
  · exact (Setting.laneEmpty _ s).effect

theorem actStart_effect (f : Frame) (s : State) : Effect s (actStart f s).1 := by
  unfold actStart forRunOrder
  split
  · split
    · exact .refl s
    · next hi =>
      split
      · exact .refl s
      · next hc => exact (Setting.start s (by simpa using hi) hc).effect
  · exact .refl s

theorem actStop_effect (f : Frame) (s : State) : Effect s (actStop f s).1 := by
  unfold actStop forRunOrder
  split
  · split
    · exact .refl s
    · exact (Setting.stop s).effect
  · exact .refl s

theorem actPauseLoad_effect (f : Frame) (s : State) : Effect s (actPauseLoad f s).1 := by
  unfold actPauseLoad forRunOrder
  split
  · exact (Setting.pause true s).effect
  · exact .refl s

theorem actResumeLoad_effect (f : Frame) (s : State) : Effect s (actResumeLoad f s).1 := by
  unfold actResumeLoad forRunOrder
  split
  · exact (Setting.pause false s).effect
  · exact .refl s

theorem actForce_effect (f : Frame) (s : State) : Effect s (actForce f s).1 := by
  unfold actForce forMaskOrder
  split
  · exact (TurretAct.addReason false false true s rfl).effect
  · exact .refl s

theorem actRecover_effect (f : Frame) (s : State) : Effect s (actRecover f s).1 := by
  unfold actRecover forMaskOrder
  split
  · split
    · exact (TurretAct.exitMask s).effect
    · exact .refl s
  · exact .refl s

theorem actMode_effect (f : Frame) (s : State) : Effect s (actMode f s).1 := by
  unfold actMode forMaskOrder
  split
  · split
    · exact .refl s
    · dsimp only
      split
      · next hn => exact (Setting.mode _ _ s hn.1 hn.2).effect
      · exact .refl s
  · exact .refl s

theorem forEventOrder_effect (o : EventOrder) (f : Frame) (s : State) (v : BitVec 14 → Events) :
    Effect s (forEventOrder o f s fun x => s.setEvents (v x)).1 := by
  unfold forEventOrder
  split
  · split
    · exact (LinkAct.events _ s).effect
    · exact .refl s
  · exact .refl s

theorem actFormatSelect_effect (f : Frame) (s : State) : Effect s (actFormatSelect f s).1 := by
  refine unlessLocked_effect fun hl => ?_
  split
  · exact .refl s
  · split
    · exact (Setting.format _ s hl).effect
    · exact .refl s

theorem actBankSwap_effect (f : Frame) (s : State) : Effect s (actBankSwap f s).1 := by
  refine unlessLocked_effect fun hl => ?_
  split
  · next hc => exact (Setting.swap s hl hc).effect
  · exact .refl s

theorem forSelector_effect {x : Selector} {f : Frame} {s : State} {go : State × Answer} (h : Effect s go.1) :
    Effect s (forSelector x f s go).1 := by
  unfold forSelector
  split
  · exact h
  · exact .refl s

theorem actQueryPocket_effect (f : Frame) (s : State) : Effect s (actQueryPocket f s).1 := by
  refine forSelector_effect ?_
  split
  · dsimp only
    split
    · exact (LinkAct.choice _ s).effect
    · split
      · exact (LinkAct.choice _ s).effect
      · exact .refl s
  · exact .refl s

theorem actQueryBankEntry_effect (f : Frame) (s : State) : Effect s (actQueryBankEntry f s).1 := by
  refine forSelector_effect ?_
  split
  · exact .refl s
  · dsimp only
    split
    · exact (LinkAct.choice _ s).effect
    · split
      · exact .refl s
      · split <;> exact .refl s

theorem actQueryLane_effect (f : Frame) (s : State) : Effect s (actQueryLane f s).1 := by
  refine forSelector_effect ?_
  split <;> exact .refl s

theorem actQueryTally_effect (f : Frame) (s : State) : Effect s (actQueryTally f s).1 := by
  refine forSelector_effect ?_
  dsimp only
  split <;> exact .refl s

/-! ## How a command is made of acts -/

/-- How a command other than a motion command and FULL_RESET runs. -/
inductive Ran (s : State) : State → Prop where
  | acts {t : State} (h : Acts s t) : Ran s t
  | answered {u : State} (f : Frame) (a : Answer) (hb : CanBegin (settled s)) (h : Effect (keepPlace (settled s)) u) :
      Ran s (replied f a u)
  | discarded {u : State} (h : Acts s u) : Ran s (dropHead u)
  | completed : Ran s (completeFrame (opened s))
  | runReset (f : Frame) : Ran s (takeRunReset f (settled s))

theorem canBegin_of_placeForReply {s : State} (h : placeForReply s = true) : CanBegin s :=
  ((Bool.or_eq_true _ _).mp h).imp_right of_decide_eq_true

/-- Taking up a head frame leaves the state alone, or answers it in its kept place. -/
theorem takeUp_cases (k : Kind) (mine : Byte → Bool) (act : Frame → State → State × Answer) (s : State) :
    takeUp k mine act s = s ∨ CanBegin s ∧ ∃ f, takeUp k mine act s = replied f (answer .badLength) (keepPlace s) ∨
      takeUp k mine act s = replied f (act f (keepPlace s)).2 (act f (keepPlace s)).1 := by
  unfold takeUp
  split
  · exact .inl rfl
  · next f _ _ =>
    split
    · split
      · next hp =>
        refine .inr ⟨canBegin_of_placeForReply hp, f, ?_⟩
        dsimp only
        split
        · exact .inr rfl
        · exact .inl rfl
      · exact .inl rfl
    · exact .inl rfl

theorem takeUp_ran {k : Kind} {mine : Byte → Bool} {act : Frame → State → State × Answer}
    (h : ∀ f t, Effect t (act f t).1) (s : State) : Ran s (takeUp k mine act (settled s)) := by
  obtain he | ⟨hb, f, he | he⟩ := takeUp_cases k mine act (settled s)
  · rw [he]; exact .acts (settled_acts s)
  · rw [he]; exact .answered f _ hb (.refl _)
  · rw [he]; exact .answered f _ hb (h f _)

theorem takeQuiet_ran {k : Kind} {act : Frame → State → State} (h : ∀ f t, Acts t (act f t)) (s : State) :
    Ran s (takeQuiet k act (settled s)) := by
  unfold takeQuiet
  split
  · exact .acts (settled_acts s)
  · split
    · exact .discarded ((settled_acts s).trans (h _ _))
    · exact .acts (settled_acts s)

theorem fileResult_acts (m : StationNo) (q : BitVec 8) (v : ResultValue) (s : State) : Acts s (fileResult m q v s) := by
  unfold fileResult
  split
  · exact writeSlot_acts ..
  · split
    · exact (LinkAct.counters _ s).acts.tail (LinkAct.raise .late _).act
    · split
      · exact (LinkAct.counters _ s).acts
      · exact (LinkAct.counters _ s).acts

theorem takeResult_acts (f : Frame) (s : State) : Acts s (takeResult f s) := by
  unfold takeResult
  split
  · split
    · exact (LinkAct.counters _ s).acts
    · split
      · exact (LinkAct.counters _ s).acts
      · exact fileResult_acts ..
  · exact (LinkAct.counters _ s).acts

theorem takeTemp_acts (f : Frame) (s : State) : Acts s (takeTemp f s) := by
  unfold takeTemp
  split
  · split
    · exact (LinkAct.counters _ s).acts
    · exact (TurretAct.station _ _ s fun _ => rfl).acts
  · exact (LinkAct.counters _ s).acts

theorem takeUnknown_ran (s : State) : Ran s (takeUnknown (settled s)) := by
  unfold takeUnknown
  split
  · exact .acts (settled_acts s)
  · split
    · split
      · exact .discarded ((settled_acts s).tail (LinkAct.counters _ _).act)
      · split
        · next hp =>
          rw [placeReply_dropHead]
          exact .answered _ _ (canBegin_of_placeForReply hp) (.refl _)
        · exact .acts (settled_acts s)
    · exact .acts (settled_acts s)

theorem runReset_ran (s : State) : Ran s (runReset (settled s)) := by
  unfold runReset
  split
  · exact .acts (settled_acts s)
  · split
    · exact .runReset _
    · exact takeUp_ran (fun _ t => .refl t) s

/-! ## The receiver and the transmitter -/

/-- Before a bit or a deassertion the header and the frame have been taken: neither is due any more. -/
theorem takeReceived_not_due (s : State) :
    headerDue (takeReceived s) = false ∧ frameDue (takeReceived s) = false := by
  have hheader (t : State) : headerDue (takeHeader t) = false := by
    unfold takeHeader
    split
    · dsimp only
      split <;> simp [headerDue, runt]
    · next h => simpa using h
  have hcomplete (t : State) (h : headerDue t = false) :
      headerDue (takeComplete t) = false ∧ frameDue (takeComplete t) = false := by
    unfold takeComplete
    split
    · dsimp only
      split
      · unfold arrive
        split <;> simp [headerDue, frameDue]
      · simp [headerDue, frameDue]
    · next hf => exact ⟨h, by simpa using hf⟩
  have hopened (t : State) : headerDue (opened t) = headerDue t ∧ frameDue (opened t) = frameDue t := by
    simp [headerDue, frameDue]
  obtain ⟨h1, h2⟩ := hcomplete (opened (takeHeader (opened s))) ((hopened _).1.trans (hheader _))
  exact ⟨(hopened _).1.trans h1, (hopened _).2.trans h2⟩

theorem takeReceived_acts (s : State) : Acts s (takeReceived s) :=
  ((((LinkAct.opened s).acts.tail (LinkAct.takeHeader _).act).tail (LinkAct.opened _).act).tail (LinkAct.takeComplete _).act).tail (LinkAct.opened _).act

theorem takeRhold_acts (b : Bool) (s : State) : Acts s (takeRhold b s) := by
  have hpins : Acts s (s.setPins { s.pins with rhold := b }) := (LinkAct.pins _ s).acts
  unfold takeRhold
  dsimp only
  split
  · unfold abandon
    split
    · exact hpins.tail (LinkAct.tx _ _).act
    · exact hpins
  · unfold startSending
    split
    · exact hpins.tail (LinkAct.tx _ _).act
    · exact hpins

/-! ## The commands -/

/-- The two motion commands, in which a load may be taken. -/
def isMotion : Instr → Bool
  | .encoderCount _ _ _ | .indexEvent _ => true
  | _ => false

/-- FULL_RESET. -/
def isFullReset : Instr → Bool
  | .fullReset _ _ _ => true
  | _ => false

theorem exec_motions {c : Instr} {s t : State} (hc : isMotion c = true) (h : exec c s = .next t) : Motions s t := by
  have hseen (pps : Bool) : Motions s (seePps pps (settled s)) :=
    Acts.motions ((settled_acts s).tail (LinkAct.pins _ _).act)
  cases c with
  | encoderCount a b pps =>
    obtain rfl := Host.Outcome.next.inj h
    exact (hseen pps).trans (encoderChange_motions ..)
  | indexEvent pps =>
    obtain rfl := Host.Outcome.next.inj h
    split
    · exact hseen pps
    · next hst => exact (hseen pps).tail (.act (TurretAct.home _ hst).act)
    · next hst => exact (hseen pps).trans (indexTracking_motions _ hst)
  | _ => simp [isMotion] at hc

theorem exec_ran {c : Instr} {s t : State} (hm : isMotion c = false) (hr : isFullReset c = false)
    (h : exec c s = .next t) : Ran s t := by
  cases c with
  | encoderCount | indexEvent => simp [isMotion] at hm
  | fullReset => simp [isFullReset] at hr
  | slipMissingIndex =>
    obtain rfl := Host.Outcome.next.inj h
    split
    · exact .acts ((takePoints_acts s).trans (takeMissingIndex_acts _))
    · exact .acts .refl
  | triggerEnd m => obtain rfl := Host.Outcome.next.inj h; exact .acts (takeTriggerEnd_acts m s)
  | deadlineExpiry m =>
    obtain rfl := Host.Outcome.next.inj h
    exact .acts ((LinkAct.opened s).acts.trans (takeDeadline_acts m _))
  | runClose l => obtain rfl := Host.Outcome.next.inj h; exact .acts (takeClose_acts l s)
  | restPoint l => obtain rfl := Host.Outcome.next.inj h; exact .acts (takeRestPoint_acts l s)
  | windowEnd l => obtain rfl := Host.Outcome.next.inj h; exact .acts ((LinkAct.opened s).acts.tail (TurretAct.windowEnd l _).act)
  | drop l => obtain rfl := Host.Outcome.next.inj h; exact .acts ((settled_acts s).tail (TurretAct.drop l _).act)
  | pendingNoticeAdmit => obtain rfl := Host.Outcome.next.inj h; exact .acts (LinkAct.admitHanded s).acts
  | frameStart =>
    obtain rfl := Host.Outcome.next.inj h
    split
    · next hw => exact .acts ((LinkAct.pins _ s).acts.tail (.link (.startFrame _ hw.1)))
    · exact .acts (LinkAct.pins _ s).acts
  | headerReceived => obtain rfl := Host.Outcome.next.inj h; exact .acts ((LinkAct.opened s).acts.tail (LinkAct.takeHeader _).act)
  | frameComplete => obtain rfl := Host.Outcome.next.inj h; exact .acts ((LinkAct.opened s).acts.tail (LinkAct.takeComplete _).act)
  | mfsDeassert => obtain rfl := Host.Outcome.next.inj h; exact .acts ((takeReceived_acts s).tail (LinkAct.endFrame _).act)
  | mclkRisingEdge d =>
    obtain rfl := Host.Outcome.next.inj h
    obtain ⟨hh, hf⟩ := takeReceived_not_due s
    exact .acts ((takeReceived_acts s).tail (LinkAct.sampleBit d _ hh hf).act)
  | transmitStart b => obtain rfl := Host.Outcome.next.inj h; exact .acts ((LinkAct.opened s).acts.trans (takeRhold_acts b _))
  | rholdAssert => obtain rfl := Host.Outcome.next.inj h; exact .acts (takeRhold_acts true s)
  | transmitComplete => obtain rfl := Host.Outcome.next.inj h; exact .completed
  | filler => obtain rfl := Host.Outcome.next.inj h; exact takeQuiet_ran (fun _ _ => .refl) s
  | result => obtain rfl := Host.Outcome.next.inj h; exact takeQuiet_ran takeResult_acts s
  | temp => obtain rfl := Host.Outcome.next.inj h; exact takeQuiet_ran takeTemp_acts s
  | unknownKind => obtain rfl := Host.Outcome.next.inj h; exact takeUnknown_ran s
  | bankHeader => obtain rfl := Host.Outcome.next.inj h; exact takeUp_ran (fun _ t => bankWrite_effect t _ _) s
  | binEntry => obtain rfl := Host.Outcome.next.inj h; exact takeUp_ran (fun _ t => bankWrite_effect t _ _) s
  | specialRoute => obtain rfl := Host.Outcome.next.inj h; exact takeUp_ran (fun _ t => bankWrite_effect t _ _) s
  | bankSwap => obtain rfl := Host.Outcome.next.inj h; exact takeUp_ran actBankSwap_effect s
  | geometry => obtain rfl := Host.Outcome.next.inj h; exact takeUp_ran actGeometry_effect s
  | station => obtain rfl := Host.Outcome.next.inj h; exact takeUp_ran actStation_effect s
  | laneSetup => obtain rfl := Host.Outcome.next.inj h; exact takeUp_ran actLaneSetup_effect s
  | laneState => obtain rfl := Host.Outcome.next.inj h; exact takeUp_ran actLaneState_effect s
  | laneEmpty => obtain rfl := Host.Outcome.next.inj h; exact takeUp_ran actLaneEmpty_effect s
  | start => obtain rfl := Host.Outcome.next.inj h; exact takeUp_ran actStart_effect s
  | stop => obtain rfl := Host.Outcome.next.inj h; exact takeUp_ran actStop_effect s
  | pauseLoad => obtain rfl := Host.Outcome.next.inj h; exact takeUp_ran actPauseLoad_effect s
  | resumeLoad => obtain rfl := Host.Outcome.next.inj h; exact takeUp_ran actResumeLoad_effect s
  | runReset => obtain rfl := Host.Outcome.next.inj h; exact runReset_ran s
  | force => obtain rfl := Host.Outcome.next.inj h; exact takeUp_ran actForce_effect s
  | recover => obtain rfl := Host.Outcome.next.inj h; exact takeUp_ran actRecover_effect s
  | mode => obtain rfl := Host.Outcome.next.inj h; exact takeUp_ran actMode_effect s
  | enable => obtain rfl := Host.Outcome.next.inj h; exact takeUp_ran (fun f t => forEventOrder_effect .enable f t _) s
  | clear => obtain rfl := Host.Outcome.next.inj h; exact takeUp_ran (fun f t => forEventOrder_effect .clear f t _) s
  | tallyClear =>
    obtain rfl := Host.Outcome.next.inj h
    exact takeUp_ran (fun _ t => unlessLocked_effect fun hl => (Setting.tallyClear t hl).effect) s
  | lock => obtain rfl := Host.Outcome.next.inj h; exact takeUp_ran (fun _ t => (Setting.lock t).effect) s
  | formatSelect => obtain rfl := Host.Outcome.next.inj h; exact takeUp_ran actFormatSelect_effect s
  | queryStatus | queryCounters =>
    obtain rfl := Host.Outcome.next.inj h
    exact takeUp_ran (fun _ t => forSelector_effect (.refl t)) s
  | queryPocket => obtain rfl := Host.Outcome.next.inj h; exact takeUp_ran actQueryPocket_effect s
  | queryBankEntry => obtain rfl := Host.Outcome.next.inj h; exact takeUp_ran actQueryBankEntry_effect s
  | queryLane => obtain rfl := Host.Outcome.next.inj h; exact takeUp_ran actQueryLane_effect s
  | queryTally => obtain rfl := Host.Outcome.next.inj h; exact takeUp_ran actQueryTally_effect s

end Sys2Proof.Machine
end

section
/-!
PROOF. Invariants of every step: a predicate that each act, load, setting, REPLY and reset keeps is kept by every step.
-/

namespace Sys2Proof.Machine

/-! ## What a step can do -/

/-- Three marks of the report queue that no act touches: the place kept for the head frame's REPLY (R185), the PART format
and its mark (R206, R207). -/
@[simp] def SameMarks (s t : State) : Prop :=
  t.report.replyPlace = s.report.replyPlace ∧ t.report.formatTwo = s.report.formatTwo ∧
    t.report.formatMark = s.report.formatMark

theorem SameMarks.trans {s t u : State} (h : SameMarks s t) (h' : SameMarks t u) : SameMarks s u :=
  ⟨h'.1.trans h.1, h'.2.1.trans h.2.1, h'.2.2.trans h.2.2⟩

@[simp] theorem admitHanded_marks (s : State) : (admitHanded s).report.replyPlace = s.report.replyPlace ∧
    (admitHanded s).report.formatTwo = s.report.formatTwo ∧
    (admitHanded s).report.formatMark = s.report.formatMark := by
  unfold admitHanded
  split <;> simp

@[simp] theorem opened_marks (s : State) : (opened s).report.replyPlace = s.report.replyPlace ∧
    (opened s).report.formatTwo = s.report.formatTwo ∧
    (opened s).report.formatMark = s.report.formatMark := by simp [opened]

@[simp] theorem raise_marks (fl : Flag) (s : State) : (raise fl s).report.replyPlace = s.report.replyPlace ∧
    (raise fl s).report.formatTwo = s.report.formatTwo ∧
    (raise fl s).report.formatMark = s.report.formatMark := by
  unfold raise offerNotice enqueue
  dsimp only
  repeat' split
  all_goals simp

@[simp] theorem handReport_marks (r : PartReport) (s : State) : (handReport r s).report.replyPlace = s.report.replyPlace ∧
    (handReport r s).report.formatTwo = s.report.formatTwo ∧
    (handReport r s).report.formatMark = s.report.formatMark := by
  unfold handReport enqueue
  split <;> simp

@[simp] theorem deliver_marks (l : LaneNo) (k : PocketNo) (p : Part) (s : State) : (deliver l k p s).report.replyPlace = s.report.replyPlace ∧
    (deliver l k p s).report.formatTwo = s.report.formatTwo ∧
    (deliver l k p s).report.formatMark = s.report.formatMark := by
  simp [deliver]

@[simp] theorem depart_marks (o : OutcomeKind) (k : PocketNo) (p : Part) (s : State) :
    (depart o k p s).report.replyPlace = s.report.replyPlace ∧
    (depart o k p s).report.formatTwo = s.report.formatTwo ∧
    (depart o k p s).report.formatMark = s.report.formatMark := by
  simp [depart]

theorem departure_marks (s : State) : SameMarks s (departure s) := by
  unfold departure departRecord
  split
  · simp
  · split <;> simp

@[simp] theorem purgeOne_marks (b : Bool) (k : PocketNo) (s : State) : (purgeOne b k s).report.replyPlace = s.report.replyPlace ∧
    (purgeOne b k s).report.formatTwo = s.report.formatTwo ∧
    (purgeOne b k s).report.formatMark = s.report.formatMark := by
  unfold purgeOne
  split
  · simp
  · cases b <;> simp

@[simp] theorem purge_marks (load : Nat) (b : Bool) (s : State) : (purge load b s).report.replyPlace = s.report.replyPlace ∧
    (purge load b s).report.formatTwo = s.report.formatTwo ∧
    (purge load b s).report.formatMark = s.report.formatMark := by
  have hfold (xs : List PocketNo) (t : State) : SameMarks t (xs.foldl (fun t k => purgeOne b k t) t) := by
    induction xs generalizing t with
    | nil => simp
    | cons k xs ih => exact SameMarks.trans (purgeOne_marks b k t) (ih _)
  exact hfold _ s

theorem classify_marks (k : PocketNo) (s : State) : SameMarks s (classify k s) := by
  unfold classify resolveRoute reserve
  dsimp only
  repeat' split
  all_goals simp

theorem firePhase_marks (e : Option Travel) (l : LaneNo) (s : State) : SameMarks s (firePhase e l s) := by
  unfold firePhase
  dsimp only
  repeat' split
  all_goals simp

theorem addReason_marks (a b c : Bool) (s : State) : SameMarks s (addReason a b c s) := by
  unfold addReason enterMask
  dsimp only
  repeat' split
  all_goals simp

theorem LinkAct.marks {s t : State} (h : LinkAct s t) : SameMarks s t := by
  cases h with
  | takeHeader =>
    unfold Machine.takeHeader runt
    dsimp only
    repeat' split
    all_goals simp
  | takeComplete =>
    unfold Machine.takeComplete arrive
    dsimp only
    repeat' split
    all_goals simp
  | endFrame => unfold Machine.endFrame runt; dsimp only; split <;> simp
  | sampleBit => unfold Machine.sampleBit; split <;> simp
  | opened | admitHanded | raise | counters | events | pins | tx | choice | startFrame => simp

theorem TurretAct.marks {s t : State} (h : TurretAct s t) : SameMarks s t := by
  cases h with
  | station | slot | rest | passCheck | track | clean => simp
  | classify k => exact classify_marks k s
  | windowEnd l =>
    unfold takeWindowEnd
    repeat' split
    all_goals simp
  | drop l =>
    unfold dropEdge confirmRecord
    repeat' split
    all_goals simp
  | departure => exact departure_marks s
  | fire e l => exact firePhase_marks e l s
  | purgeOne b k => exact purgeOne_marks b k s
  | addReason a b c => exact addReason_marks a b c s
  | exitMask => unfold Machine.exitMask; dsimp only; split <;> simp
  | home => unfold Machine.home; dsimp only; split <;> simp

theorem announceIdle_marks (b : Bool) (s : State) : SameMarks s (announceIdle b s) := by simp [announceIdle]

/-- No setting but RUN-CONTROL's own takes or gives the kept place. -/
theorem Setting.replyPlace {s t : State} (h : Setting s t) : t.report.replyPlace = s.report.replyPlace := by
  cases h with
  | laneState =>
    unfold applyLaneOrder
    dsimp only
    split <;> simp
  | stop => exact (announceIdle_marks true s).1
  | write | swap => simp [writeStaging, swapBanks]
  | _ => simp

theorem Effect.replyPlace {s t : State} (h : Effect s t) : t.report.replyPlace = s.report.replyPlace := by
  obtain h | h := h
  · refine h.keeps (P := fun u => u.report.replyPlace = s.report.replyPlace) (fun u v huv hu => ?_) rfl
    cases huv with
    | link huv => exact huv.marks.1.trans hu
    | turret huv => exact huv.marks.1.trans hu
  · exact h.replyPlace

/-- A predicate that each part of a step keeps. -/
structure StepInvariant (P : State → Prop) : Prop where
  link : ∀ {s t}, LinkAct s t → P s → P t
  turret : ∀ {s t}, TurretAct s t → P s → P t
  load : ∀ s, P s → P (loadSample s)
  setting : ∀ {s t}, Setting s t → P s → P t
  keepPlace : ∀ s, CanBegin s → P s → P (keepPlace s)
  reply : ∀ f a s, s.report.replyPlace = true → P s → P (replied f a s)
  dropHead : ∀ s, P s → P (dropHead s)
  complete : ∀ s, P s → P (completeFrame s)
  runReset : ∀ f s, P s → P (takeRunReset f s)
  fullReset : ∀ a b m s, P (fullReset a b m s)
  pending : ∀ cs s, P s → P (s.setPending cs)

theorem StepInvariant.act {P : State → Prop} (hP : StepInvariant P) (s t : State) (h : Act s t) (hs : P s) : P t := by
  cases h with
  | link h => exact hP.link h hs
  | turret h => exact hP.turret h hs

theorem StepInvariant.ran {P : State → Prop} (hP : StepInvariant P) {s t : State} (h : Ran s t) (hs : P s) : P t := by
  have hsettled : P (settled s) := (settled_acts s).keeps hP.act hs
  cases h with
  | acts h => exact h.keeps hP.act hs
  | @answered u f a hb h =>
    have hkept := hP.keepPlace _ hb hsettled
    have hu : P u := h.elim (fun h => h.keeps hP.act hkept) (fun h => hP.setting h hkept)
    exact hP.reply f a u (by rw [h.replyPlace]; rfl) hu
  | discarded h => exact hP.dropHead _ (h.keeps hP.act hs)
  | completed => exact hP.complete _ (hP.link (.opened s) hs)
  | runReset f => exact hP.runReset f _ hsettled

/-- A step invariant is kept by every command. -/
theorem StepInvariant.exec {P : State → Prop} (hP : StepInvariant P) {c : Instr} {s t : State} (hs : P s)
    (h : exec c s = .next t) : P t := by
  cases hm : isMotion c with
  | true => exact (exec_motions hm h).keeps hP.act hP.load hs
  | false =>
    cases hr : isFullReset c with
    | false => exact hP.ran (exec_ran hm hr h) hs
    | true =>
      cases c with
      | fullReset a b m => obtain rfl := Host.Outcome.next.inj h; exact hP.fullReset a b m s
      | _ => simp [isFullReset] at hr

theorem sendBit_cases (s : State) : sendBit s = s ∨ sendBit s = s.setTx (nextBit s.tx) := by
  unfold sendBit
  split
  · split
    · exact .inl rfl
    · split
      · exact .inr rfl
      · exact .inl rfl
  · exact .inl rfl

/-- A step invariant is kept by every step. -/
theorem StepInvariant.step {P : State → Prop} (hP : StepInvariant P) {s t : State} (hs : P s) (h : step s = .next t) :
    P t := by
  unfold Machine.step at h
  split at h
  · obtain rfl := Host.Outcome.next.inj h
    obtain he | he := sendBit_cases s <;> rw [he]
    · exact hs
    · exact hP.link (.tx _ s) hs
  · exact hP.exec (hP.pending _ s hs) h

/-! ## Invariants of the turret -/

/-- Two states agree on everything but the links, the event block, the counters and the load pause. -/
structure SameBody (s t : State) : Prop where
  geo : t.geo = s.geo := by simp
  trk : t.trk = s.trk := by simp
  ring : t.ring = s.ring := by simp
  stations : t.stations = s.stations := by simp
  banks : t.banks = s.banks := by simp
  lanes : t.lanes = s.lanes := by simp
  mask : t.mask = s.mask := by simp
  tally : t.tally = s.tally := by simp

theorem LinkAct.sameBody {s t : State} (h : LinkAct s t) : SameBody s t := by
  cases h with
  | takeHeader =>
    unfold Machine.takeHeader runt
    dsimp only
    repeat' split
    all_goals constructor <;> simp
  | takeComplete =>
    unfold Machine.takeComplete arrive
    dsimp only
    repeat' split
    all_goals constructor <;> simp
  | endFrame => unfold Machine.endFrame runt; dsimp only; split <;> constructor <;> simp
  | sampleBit => unfold Machine.sampleBit; split <;> constructor <;> simp
  | _ => constructor <;> simp

/-- A predicate on the turret, its records, the lanes, the banks and the mask that each of their changes keeps. -/
structure TurretInvariant (P : State → Prop) : Prop where
  body : ∀ {s t}, SameBody s t → P s → P t
  turret : ∀ {s t}, TurretAct s t → P s → P t
  load : ∀ s, P s → P (loadSample s)
  setting : ∀ {s t}, Setting s t → P s → P t
  idle : ∀ b s, P s → P (announceIdle b s)
  idleStations : ∀ v s, s.trk.st = .idle → P s → P (s.setStations v)
  fullReset : ∀ a b m s, P (fullReset a b m s)

theorem announceIdle_st (b : Bool) (s : State) : (announceIdle b s).trk.st = .idle := by simp [announceIdle]

theorem completeFrame_sameBody (s : State) : SameBody s (completeFrame s) := by
  unfold completeFrame handPlace
  repeat' split
  all_goals constructor <;> simp

theorem TurretInvariant.stepInvariant {P : State → Prop} (hP : TurretInvariant P) : StepInvariant P where
  link h hs := hP.body h.sameBody hs
  turret h hs := hP.turret h hs
  load := hP.load
  setting h hs := hP.setting h hs
  keepPlace s _ hs := hP.body {} hs
  reply f a s _ hs := hP.body (s := s) (t := replied f a s) ⟨rfl, rfl, rfl, rfl, rfl, rfl, rfl, rfl⟩ hs
  dropHead s hs := hP.body {} hs
  complete s hs := hP.body (completeFrame_sameBody s) hs
  runReset f s hs := by
    have hstations := hP.idleStations ((announceIdle false s).stations.map runResetStation) _
      (announceIdle_st false s) (hP.idle false s hs)
    refine hP.body ?_ hstations
    constructor <;> simp [takeRunReset, runResetState]
  fullReset := hP.fullReset
  pending cs s hs := hP.body {} hs

end Sys2Proof.Machine
end

section
/-!
PROOF. What an act does to the pocket records, said once: it replaces at most one record, and the in-use counts, the lanes'
counts, the confirm queues and the tally follow that record.
-/

namespace Sys2Proof.Machine

/-! ## Counts that follow one record -/

/-- A count of records after one record's test has gone from a to b. -/
def shifted (n : Nat) (a b : Bool) : Nat := if a = b then n else if b then n + 1 else n - 1

/-- The pockets of a queue after pocket k's record has gone in or out of it. -/
def shiftedQueue (k : PocketNo) (ks : List PocketNo) (a b : Bool) : List PocketNo :=
  if a = b then ks else if b then ks ++ [k] else ks.erase k

@[simp] theorem shifted_same (n : Nat) (a : Bool) : shifted n a a = n := if_pos rfl
@[simp] theorem shifted_up (n : Nat) : shifted n false true = n + 1 := rfl
@[simp] theorem shifted_down (n : Nat) : shifted n true false = n - 1 := rfl
@[simp] theorem shiftedQueue_same (k : PocketNo) (ks : List PocketNo) (a : Bool) : shiftedQueue k ks a a = ks := if_pos rfl
@[simp] theorem shiftedQueue_in (k : PocketNo) (ks : List PocketNo) : shiftedQueue k ks false true = ks ++ [k] := rfl
@[simp] theorem shiftedQueue_out (k : PocketNo) (ks : List PocketNo) : shiftedQueue k ks true false = ks.erase k := rfl

/-- The number of records that a test holds for, by the record's own test. -/
theorem recordsWith_eq (test : Part → Bool) (s : State) : recordsWith test s = s.ring.countP fun r => r.any test := by
  unfold recordsWith
  congr 1
  funext r
  cases r <;> rfl

theorem recordsWith_pos {test : Part → Bool} {s : State} {k : PocketNo} (h : (s.ring[k]).any test = true) :
    0 < recordsWith test s := by
  rw [recordsWith_eq]
  exact Vector.countP_pos_iff.mpr ⟨s.ring[k], Vector.getElem_mem _, h⟩

/-- With one record replaced, the number of records follows that record. -/
theorem recordsWith_set {test : Part → Bool} {s t : State} {k : PocketNo} {r : Option Part}
    (h : t.ring = s.ring.set k r) :
    recordsWith test t = shifted (recordsWith test s) ((s.ring[k]).any test) (r.any test) := by
  have hpos := @recordsWith_pos test s k
  rw [recordsWith_eq, recordsWith_eq, h, Vector.countP_set] at *
  cases ha : (s.ring[k]).any test <;> cases hb : r.any test <;> simp_all

/-- The pockets of a lane's confirm queue, oldest first. -/
def queuePockets (s : State) (l : LaneNo) : List PocketNo := (s.lanes[l].queue).map (·.pocket)

/-- The tally entries that count a record: LOADED when it is loaded, its class when it is classified, and its outcome (with
its lane's entry for a delivery) when it leaves. -/
inductive CountedAt : Bool → Bool → List (Fin 49) → Prop where
  | stays (a : Bool) : CountedAt a a []
  | classed (v : Verdict) : CountedAt true true [tallyClass v]
  | loaded : CountedAt false true [tallyLoaded]
  | delivered (l : LaneNo) : CountedAt true false [tallyLane l, tallyDelivered]
  | dumped : CountedAt true false [tallyDumped]
  | unsorted : CountedAt true false [tallyUnsorted]

/-- The named tally entries rise, and the others stay. -/
def Rises (is : List (Fin 49)) (s t : State) : Prop :=
  ∀ i : Fin 49, t.tally[i] = if i ∈ is then satInc 4294967295 s.tally[i] else s.tally[i]

/-- The life of a record: a FREE record is not taken up, and a verdict stays while the record is not freed (R90). -/
def Follows (old new : Option Part) : Prop :=
  (old = none → new = none) ∧
    ∀ p q v, old = some p → new = some q → verdictOf p = some v → verdictOf q = some v

/-- One record is replaced, and what counts or queues records follows it. -/
structure Replaced (k : PocketNo) (r : Option Part) (s t : State) : Prop where
  ring : t.ring = s.ring.set k r
  inUse : ∀ id, (bankAt t.banks id).inUse =
    shifted (bankAt s.banks id).inUse ((s.ring[k]).any (awaitsOn id)) (r.any (awaitsOn id))
  reserved : ∀ l : LaneNo, t.lanes[l].reserved =
    shifted s.lanes[l].reserved ((s.ring[k]).any (holdsPlaceAt l)) (r.any (holdsPlaceAt l))
  capacity : ∀ l : LaneNo, t.lanes[l].capacity = s.lanes[l].capacity
  delivered : ∀ l : LaneNo, t.lanes[l].delivered = s.lanes[l].delivered ∨
    t.lanes[l].delivered = satInc 65535 s.lanes[l].delivered ∧ (s.ring[k]).any (holdsPlaceAt l) = true ∧
      r.any (holdsPlaceAt l) = false
  room : ∀ l : LaneNo, (s.ring[k]).any (holdsPlaceAt l) = false → r.any (holdsPlaceAt l) = true →
    hasRoom s.lanes[l] = true
  queue : ConfirmQueuesMatch s → ∀ l : LaneNo, queuePockets t l =
    shiftedQueue k (queuePockets s l) ((s.ring[k]).any (firedAt l)) (r.any (firedAt l))
  tally : ∃ is, CountedAt (s.ring[k]).isSome r.isSome is ∧ Rises is s t

/-- Nothing that counts, queues or holds records changes. -/
structure RecordsSame (s t : State) : Prop where
  ring : t.ring = s.ring := by simp
  banks : t.banks = s.banks := by simp
  lanes : ∀ l : LaneNo, t.lanes[l].reserved = s.lanes[l].reserved ∧ t.lanes[l].capacity = s.lanes[l].capacity ∧
    t.lanes[l].delivered = s.lanes[l].delivered ∧ t.lanes[l].queue = s.lanes[l].queue := by simp
  tally : t.tally = s.tally := by simp

theorem awaitsOn_eq_false {p : Part} (h : p.st ≠ .await) (id : BankId) : awaitsOn id p = false := by
  simp [awaitsOn, h]

theorem RecordsSame.refl (s : State) : RecordsSame s s := {}

/-- A state with all records and counts as they were replaces a record by itself. -/
theorem RecordsSame.replaced {s t : State} (h : RecordsSame s t) (k : PocketNo) : Replaced k s.ring[k] s t where
  ring := by simp [h.ring]
  inUse id := by simp [h.banks]
  reserved l := by simpa using (h.lanes l).1
  capacity l := (h.lanes l).2.1
  delivered l := .inl (h.lanes l).2.2.1
  room l h0 h1 := by rw [h0] at h1; cases h1
  queue _ l := by rw [shiftedQueue_same, queuePockets, (h.lanes l).2.2.2]; rfl
  tally := ⟨[], .stays _, fun i => by simp [h.tally]⟩

theorem Follows.refl (r : Option Part) : Follows r r :=
  ⟨id, fun p q v hp hq hv => by obtain rfl : p = q := by simpa [hp] using hq
                                exact hv⟩

theorem Follows.free (r : Option Part) : Follows r none := ⟨fun _ => rfl, fun _ _ _ _ h => by cases h⟩

/-- An AWAIT record has no verdict to keep. -/
theorem Follows.of_await {r : Option Part} {p : Part} (hr : r = some p) (ha : p.st = .await) (q : Option Part) :
    Follows r q := by
  subst hr
  refine ⟨by simp, fun p' _ v hp _ hv => ?_⟩
  obtain rfl := Option.some.inj hp
  simp [verdictOf, ha] at hv

/-- A record that keeps the verdict it has. -/
theorem Follows.of_verdict {r : Option Part} {p q : Part} (hr : r = some p) (h : verdictOf q = verdictOf p) :
    Follows r (some q) := by
  subst hr
  refine ⟨by simp, fun p' q' v hp hq hv => ?_⟩
  obtain rfl := Option.some.inj hp
  obtain rfl := Option.some.inj hq
  rw [h, hv]

/-! ## The tally entries -/

theorem rises_nil {s t : State} (h : t.tally = s.tally) : Rises [] s t := fun i => by simp [h]

theorem rises_tallyCount (i : Fin 49) (s : State) : Rises [i] s (tallyCount i s) := fun j => by
  by_cases h : j = i <;> simp [tallyCount_at, h]

theorem rises_tally_eq {is : List (Fin 49)} {s t s' t' : State} (h : Rises is s t) (hs : s'.tally = s.tally)
    (ht : t'.tally = t.tally) : Rises is s' t' := fun i => by rw [hs, ht]; exact h i

theorem tallyLane_ne_delivered (l : LaneNo) : tallyLane l ≠ tallyDelivered := by
  intro h
  have := congrArg Fin.val h
  simp [tallyLane, tallyDelivered] at this
  omega

theorem rises_delivered (l : LaneNo) (s : State) :
    Rises [tallyLane l, tallyDelivered] s (tallyCount (tallyLane l) (tallyCount tallyDelivered s)) := fun i => by
  have hne := tallyLane_ne_delivered l
  by_cases h1 : i = tallyLane l
  · subst h1; simp [tallyCount_at, hne]
  · by_cases h2 : i = tallyDelivered <;> simp [tallyCount_at, h1, h2, hne.symm]

/-! ## Leaving the ring -/

theorem deliver_ring (l : LaneNo) (k : PocketNo) (p : Part) (s : State) :
    (deliver l k p s).ring = s.ring.set k none := by
  simp [deliver, setRecord]

theorem deliver_lanes (l : LaneNo) (k : PocketNo) (p : Part) (s : State) :
    (deliver l k p s).lanes = (modLane l deliverOn s).lanes := by
  simp [deliver]

theorem deliver_rises (l : LaneNo) (k : PocketNo) (p : Part) (s : State) :
    Rises [tallyLane l, tallyDelivered] s (deliver l k p s) :=
  rises_tally_eq (rises_delivered l s) rfl (by simp [deliver, tallyCount])

theorem depart_ring (o : OutcomeKind) (k : PocketNo) (p : Part) (s : State) :
    (depart o k p s).ring = s.ring.set k none := by
  simp [depart, setRecord]

/-- A departure is counted DUMPED or UNSORTED. -/
theorem depart_rises (o : OutcomeKind) (k : PocketNo) (p : Part) (s : State) :
    ∃ is, CountedAt true false is ∧ Rises is s (depart o k p s) := by
  by_cases h : o = .dumped
  · exact ⟨_, .dumped, rises_tally_eq (rises_tallyCount tallyDumped s) rfl (by simp [depart, h])⟩
  · exact ⟨_, .unsorted, rises_tally_eq (rises_tallyCount tallyUnsorted s) rfl (by simp [depart, h])⟩

theorem unbind_inUse (id j : BankId) (s : State) :
    (bankAt (unbind id s).banks j).inUse = if j = id then (bankAt s.banks j).inUse - 1 else (bankAt s.banks j).inUse := by
  unfold unbind
  rw [modBank_at]
  split
  · next h => rw [h]
  · rfl

theorem dropEntry_pockets (k : PocketNo) (L : Lane) :
    (dropEntry k L).queue.map (·.pocket) = (L.queue.map (·.pocket)).erase k := by
  simp only [dropEntry, List.erase_eq_eraseP, List.eraseP_map]
  congr 2
  funext e
  exact Bool.beq_comm

/-- A lane other than the one that an act concerns. -/
theorem modLane_other {l j : LaneNo} (h : j ≠ l) (g : Lane → Lane) (s : State) :
    (modLane l g s).lanes[j] = s.lanes[j] := by
  simp [modLane_at, h]

theorem modLane_self (l : LaneNo) (g : Lane → Lane) (s : State) : (modLane l g s).lanes[l] = g s.lanes[l] := by
  simp

/-! ## The acts, record by record -/

/-- An AWAIT record with a slot written stays AWAIT and bound to its bank. -/
theorem slot_replaced {k : PocketNo} {p : Part} {s : State} (m : StationNo) (x : Slot) (hp : s.ring[k] = some p)
    (ha : p.st = .await) :
    Replaced k (some { p with slots := p.slots.set m (some x) }) s
      (setRecord k (some { p with slots := p.slots.set m (some x) }) s) where
  ring := rfl
  inUse id := by simp [hp, awaitsOn]
  reserved l := by simp [hp, holdsPlaceAt, ha]
  capacity l := by simp
  delivered l := .inl (by simp)
  room l h0 h1 := by simp [holdsPlaceAt, ha] at h1
  queue _ l := by simp [hp, firedAt, ha, queuePockets]
  tally := ⟨[], by rw [hp]; exact .stays true, rises_nil (by simp)⟩

theorem classCounted_ring (p : Part) (v : Verdict) (s : State) : (classCounted p v s).ring = s.ring := by
  unfold classCounted
  split <;> simp

theorem classCounted_banks (p : Part) (v : Verdict) (s : State) :
    (classCounted p v s).banks = (unbind p.bank s).banks := by
  unfold classCounted
  split <;> simp

theorem classCounted_tally (p : Part) (v : Verdict) (s : State) :
    (classCounted p v s).tally = (tallyCount (tallyClass v) (unbind p.bank s)).tally := by
  unfold classCounted
  split <;> simp

/-- What a classification event does to a record, if it does anything. -/
theorem classify_cases (k : PocketNo) (s : State) :
    classify k s = s ∨ ∃ p v, s.ring[k] = some p ∧ p.st = .await ∧
      ((∃ why, classify k s = setRecord k (some { p with st := .stranded v none why }) (classCounted p v s)) ∨
        ∃ c : Target, hasRoom s.lanes[c.lane] = true ∧
          classify k s = setRecord k (some { p with st := .routed v c }) (reserve c.lane (classCounted p v s))) := by
  cases hp : s.ring[k] with
  | none => exact .inl (by unfold classify; rw [hp])
  | some p =>
    by_cases hc : p.st = .await ∧ allResolved p.slots = true
    · obtain ⟨ha, hs⟩ := hc
      refine .inr ⟨p, decideVerdict (bankAt s.banks p.bank).table s.stations p.slots, rfl, ha, ?_⟩
      rw [classify_of_resolved hp ha hs rfl]
      cases handedRoute (bankAt s.banks p.bank).table (decideVerdict (bankAt s.banks p.bank).table s.stations p.slots) with
      | none => exact .inl ⟨_, rfl⟩
      | some d =>
        obtain ⟨-, he⟩ | ⟨_, c, _, -, -, hroom, he⟩ := resolveRoute_some_cases k p
          (decideVerdict (bankAt s.banks p.bank).table s.stations p.slots) d
          (classCounted p (decideVerdict (bankAt s.banks p.bank).table s.stations p.slots) s)
        · exact .inl ⟨_, he⟩
        · exact .inr ⟨c, by rwa [classCounted_lanes] at hroom, he⟩
    · exact .inl (by unfold classify; rw [hp]; exact if_neg hc)

theorem reserve_lanes (l : LaneNo) (s : State) : (reserve l s).lanes = (modLane l reserveOn s).lanes := by
  unfold reserve
  dsimp only
  split <;> simp

/-- The in-use counts after an AWAIT record has left that state. -/
theorem inUse_of_unbind {k : PocketNo} {p : Part} {s t : State} {r : Option Part} (hp : s.ring[k] = some p)
    (ha : p.st = .await) (hr : ∀ id, r.any (awaitsOn id) = false) (hb : t.banks = (unbind p.bank s).banks) (id : BankId) :
    (bankAt t.banks id).inUse =
      shifted (bankAt s.banks id).inUse ((s.ring[k]).any (awaitsOn id)) (r.any (awaitsOn id)) := by
  rw [hb, unbind_inUse, hp, hr]
  by_cases h : id = p.bank
  · simp [awaitsOn, ha, h]
  · have hother : (p.bank == id) = false := beq_false_of_ne (Ne.symm h)
    simp [awaitsOn, ha, h, hother]

theorem classify_replaced (k : PocketNo) (s : State) :
    ∃ r, Replaced k r s (classify k s) ∧ Follows s.ring[k] r := by
  obtain he | ⟨p, v, hp, ha, ⟨why, he⟩ | ⟨c, hroom, he⟩⟩ := classify_cases k s
  · rw [he]
    exact ⟨_, (RecordsSame.refl s).replaced k, .refl _⟩
  · refine ⟨some { p with st := .stranded v none why }, ?_, .of_await hp ha _⟩
    rw [he]
    exact {
      ring := by simp [setRecord, classCounted_ring]
      inUse := inUse_of_unbind hp ha (by simp [awaitsOn]) (by simp [classCounted_banks])
      reserved := fun l => by simp [hp, holdsPlaceAt, ha, classCounted_lanes]
      capacity := fun l => by simp [classCounted_lanes]
      delivered := fun l => .inl (by simp [classCounted_lanes])
      room := fun l _ h1 => by simp [holdsPlaceAt] at h1
      queue := fun _ l => by simp [hp, firedAt, ha, queuePockets, classCounted_lanes]
      tally := ⟨_, by rw [hp]; exact .classed v,
        rises_tally_eq (rises_tallyCount (tallyClass v) (unbind p.bank s)) (by simp) (by simp [classCounted_tally])⟩ }
  · refine ⟨some { p with st := .routed v c }, ?_, .of_await hp ha _⟩
    have hlanes : (classify k s).lanes = (modLane c.lane reserveOn s).lanes := by
      rw [he]
      simp [reserve_lanes, modLane, classCounted_lanes]
    rw [he] at hlanes ⊢
    exact {
      ring := by simp [setRecord, classCounted_ring]
      inUse := inUse_of_unbind hp ha (by simp [awaitsOn]) (by simp [classCounted_banks])
      reserved := fun l => by
        rw [hlanes]
        by_cases h : l = c.lane
        · subst h; simp [hp, holdsPlaceAt, ha, reserveOn]
        · have hother : (c.lane == l) = false := beq_false_of_ne (Ne.symm h)
          simp [hp, holdsPlaceAt, ha, modLane_at, h, hother]
      capacity := fun l => by rw [hlanes]; by_cases h : l = c.lane <;> simp [modLane_at, h, reserveOn]
      delivered := fun l => .inl (by rw [hlanes]; by_cases h : l = c.lane <;> simp [modLane_at, h, reserveOn])
      room := fun l _ h1 => by
        obtain rfl : c.lane = l := by simpa [holdsPlaceAt] using h1
        exact hroom
      queue := fun _ l => by
        simp only [queuePockets, hlanes]
        by_cases h : l = c.lane <;> simp [hp, firedAt, ha, modLane_at, h, reserveOn]
      tally := ⟨_, by rw [hp]; exact .classed v,
        rises_tally_eq (rises_tallyCount (tallyClass v) (unbind p.bank s)) (by simp) (by simp [classCounted_tally])⟩ }

/-- A record replaced by an act that concerns one lane. -/
theorem replaced_of_lane {k : PocketNo} {p : Part} {r : Option Part} {s t : State} {c : LaneNo} {g : Lane → Lane}
    (hp : s.ring[k] = some p) (hring : t.ring = s.ring.set k r) (hbanks : t.banks = s.banks)
    (hlanes : t.lanes = (modLane c g s).lanes) (hawait : ∀ id, awaitsOn id p = r.any (awaitsOn id))
    (hother : ∀ l, l ≠ c → holdsPlaceAt l p = r.any (holdsPlaceAt l) ∧ firedAt l p = r.any (firedAt l))
    (hcapacity : (g s.lanes[c]).capacity = s.lanes[c].capacity)
    (hreserved : (g s.lanes[c]).reserved =
      shifted s.lanes[c].reserved (holdsPlaceAt c p) (r.any (holdsPlaceAt c)))
    (hdelivered : (g s.lanes[c]).delivered = s.lanes[c].delivered ∨
      (g s.lanes[c]).delivered = satInc 65535 s.lanes[c].delivered ∧ holdsPlaceAt c p = true ∧
        r.any (holdsPlaceAt c) = false)
    (hroom : r.any (holdsPlaceAt c) = true → holdsPlaceAt c p = true)
    (hqueue : ConfirmQueuesMatch s → (g s.lanes[c]).queue.map (·.pocket) =
      shiftedQueue k (queuePockets s c) (firedAt c p) (r.any (firedAt c)))
    (htally : ∃ is, CountedAt true r.isSome is ∧ Rises is s t) : Replaced k r s t where
  ring := hring
  inUse id := by rw [hbanks, hp, Option.any_some, hawait, shifted_same]
  reserved l := by
    rw [hlanes, hp, Option.any_some]
    by_cases h : l = c
    · subst h; rw [modLane_self, hreserved]
    · rw [modLane_other h, (hother l h).1, shifted_same]
  capacity l := by
    rw [hlanes]
    by_cases h : l = c
    · subst h; rw [modLane_self, hcapacity]
    · rw [modLane_other h]
  delivered l := by
    rw [hlanes, hp, Option.any_some]
    by_cases h : l = c
    · subst h; rw [modLane_self]; exact hdelivered
    · rw [modLane_other h]; exact .inl rfl
  room l h0 h1 := by
    rw [hp, Option.any_some] at h0
    by_cases h : l = c
    · subst h; rw [hroom h1] at h0; cases h0
    · rw [(hother l h).1, h1] at h0; cases h0
  queue hq l := by
    rw [queuePockets, hlanes, hp, Option.any_some]
    by_cases h : l = c
    · subst h; rw [modLane_self]; exact hqueue hq
    · rw [modLane_other h, (hother l h).2, shiftedQueue_same, queuePockets]
  tally := by rw [hp]; exact htally

/-- A record with no place at a lane and no bank leaves the ring. -/
theorem replaced_of_stranded {k : PocketNo} {p : Part} {s t : State} {v : Verdict} {c : Option Target}
    {why : StrandReason} (hp : s.ring[k] = some p) (hst : p.st = .stranded v c why) (hring : t.ring = s.ring.set k none)
    (hbanks : t.banks = s.banks) (hlanes : t.lanes = s.lanes) (htally : ∃ is, CountedAt true false is ∧ Rises is s t) :
    Replaced k none s t where
  ring := hring
  inUse id := by simp [hp, hbanks, awaitsOn_eq_false (p := p) (by simp [hst])]
  reserved l := by simp [hp, hlanes, holdsPlaceAt, hst]
  capacity l := by rw [hlanes]
  delivered l := .inl (by rw [hlanes])
  room l _ h1 := by simp at h1
  queue _ l := by simp [hp, firedAt, hst, queuePockets, hlanes]
  tally := by rw [hp]; exact htally

/-- An AWAIT record leaves the ring with its bank's in-use count. -/
theorem replaced_of_await {k : PocketNo} {p : Part} {s t : State} (hp : s.ring[k] = some p) (ha : p.st = .await)
    (hring : t.ring = s.ring.set k none) (hbanks : t.banks = (unbind p.bank s).banks) (hlanes : t.lanes = s.lanes)
    (htally : ∃ is, CountedAt true false is ∧ Rises is s t) : Replaced k none s t where
  ring := hring
  inUse := inUse_of_unbind hp ha (fun _ => rfl) hbanks
  reserved l := by simp [hp, hlanes, holdsPlaceAt, ha]
  capacity l := by rw [hlanes]
  delivered l := .inl (by rw [hlanes])
  room l _ h1 := by simp at h1
  queue _ l := by simp [hp, firedAt, ha, queuePockets, hlanes]
  tally := by rw [hp]; exact htally

/-- A ROUTED record leaves the ring or strands with its reservation. -/
theorem replaced_of_routed {k : PocketNo} {p : Part} {r : Option Part} {s t : State} {v : Verdict} {c : Target}
    (hp : s.ring[k] = some p) (hst : p.st = .routed v c)
    (hr : r = none ∨ ∃ why, r = some { p with st := .stranded v (some c) why }) (hring : t.ring = s.ring.set k r)
    (hbanks : t.banks = s.banks) (hlanes : t.lanes = (modLane c.lane releaseOn s).lanes)
    (htally : ∃ is, CountedAt true r.isSome is ∧ Rises is s t) : Replaced k r s t := by
  have hnone : ∀ l, r.any (holdsPlaceAt l) = false ∧ r.any (firedAt l) = false ∧ ∀ id, r.any (awaitsOn id) = false := by
    obtain rfl | ⟨why, rfl⟩ := hr <;> simp [holdsPlaceAt, firedAt, awaitsOn]
  refine replaced_of_lane hp hring hbanks hlanes (fun id => ?_) (fun l hl => ?_) rfl ?_ (.inl rfl) (fun h => ?_)
    (fun _ => ?_) htally
  · simp [awaitsOn, hst, (hnone 0).2.2 id]
  · simp [holdsPlaceAt, firedAt, hst, hnone l, Ne.symm hl]
  · simp [holdsPlaceAt, hst, hnone c.lane, releaseOn]
  · rw [(hnone c.lane).1] at h; cases h
  · simp [firedAt, hst, hnone c.lane, releaseOn, queuePockets]

/-- A FIRED record leaves the ring or strands with its reservation and its confirm entry. -/
theorem replaced_of_fired {k : PocketNo} {p : Part} {r : Option Part} {s t : State} {v : Verdict} {c : Target}
    {g : Lane → Lane} (hp : s.ring[k] = some p) (hst : p.st = .fired v c)
    (hr : r = none ∨ ∃ why, r = some { p with st := .stranded v (some c) why }) (hring : t.ring = s.ring.set k r)
    (hbanks : t.banks = s.banks) (hlanes : t.lanes = (modLane c.lane g s).lanes)
    (hreserved : (g s.lanes[c.lane]).reserved = s.lanes[c.lane].reserved - 1)
    (hcapacity : (g s.lanes[c.lane]).capacity = s.lanes[c.lane].capacity)
    (hdelivered : (g s.lanes[c.lane]).delivered = s.lanes[c.lane].delivered ∨
      (g s.lanes[c.lane]).delivered = satInc 65535 s.lanes[c.lane].delivered)
    (hqueue : (g s.lanes[c.lane]).queue.map (·.pocket) = (queuePockets s c.lane).erase k)
    (htally : ∃ is, CountedAt true r.isSome is ∧ Rises is s t) : Replaced k r s t := by
  have hnone : ∀ l, r.any (holdsPlaceAt l) = false ∧ r.any (firedAt l) = false ∧ ∀ id, r.any (awaitsOn id) = false := by
    obtain rfl | ⟨why, rfl⟩ := hr <;> simp [holdsPlaceAt, firedAt, awaitsOn]
  have hplace : holdsPlaceAt c.lane p = true := by simp [holdsPlaceAt, hst]
  have hfired : firedAt c.lane p = true := by simp [firedAt, hst]
  refine replaced_of_lane hp hring hbanks hlanes (fun id => ?_) (fun l hl => ?_) hcapacity ?_
    (hdelivered.imp_right fun h => ⟨h, hplace, (hnone c.lane).1⟩) (fun _ => hplace) (fun _ => ?_) htally
  · simp [awaitsOn, hst, (hnone 0).2.2 id]
  · simp [holdsPlaceAt, firedAt, hst, hnone l, Ne.symm hl]
  · rw [hplace, (hnone c.lane).1, shifted_down, hreserved]
  · rw [hfired, (hnone c.lane).2.1, shiftedQueue_out, hqueue]

theorem passCheck_cases (l : LaneNo) (s : State) :
    passCheck l s = s ∨ ∃ k p v c, s.ring[k] = some p ∧ p.st = .routed v c ∧ c.lane = l ∧
      passCheck l s =
        modLane l releaseOn (setRecord k (some { p with st := .stranded v (some c) (passReason s l) }) s) := by
  unfold passCheck
  dsimp only
  split
  · split
    · next p hp =>
      split
      · next v c hst =>
        split
        · next hl => exact .inr ⟨_, p, v, c, hp, hst, hl, rfl⟩
        · exact .inl rfl
      · exact .inl rfl
    · exact .inl rfl
  · exact .inl rfl

theorem passCheck_replaced (l : LaneNo) (s : State) :
    ∃ k r, Replaced k r s (passCheck l s) ∧ Follows s.ring[k] r := by
  obtain he | ⟨k, p, v, c, hp, hst, rfl, he⟩ := passCheck_cases l s
  · rw [he]
    exact ⟨0, _, (RecordsSame.refl s).replaced 0, .refl _⟩
  · rw [he]
    refine ⟨k, _, replaced_of_routed hp hst (.inr ⟨_, rfl⟩) rfl (by simp) ?_
      ⟨[], .stays true, rises_nil (by simp)⟩, .of_verdict hp (by simp [verdictOf, hst])⟩
    simp [modLane]

/-- A record departs: what it lowers, and the lane it leaves. -/
theorem departRecord_replaced {k : PocketNo} {p : Part} {s : State} (hp : s.ring[k] = some p) :
    Replaced k none s (departRecord k p s) := by
  have htally (o : OutcomeKind) (q : Part) (u : State) (hu : u.tally = s.tally) :
      ∃ is, CountedAt true false is ∧ Rises is s (depart o k q u) := by
    obtain ⟨is, hc, hr⟩ := depart_rises o k q u
    exact ⟨is, hc, rises_tally_eq hr hu.symm rfl⟩
  unfold departRecord
  split
  · next ha => exact replaced_of_await hp ha (by simp [depart_ring]) (by simp) (by simp) (htally _ _ _ (by simp))
  · next v c hst =>
    exact replaced_of_routed hp hst (.inl rfl) (by simp [depart_ring]) (by simp) (by simp) (htally _ _ _ (by simp))
  · next v c hst =>
    refine replaced_of_fired (g := fun L => releaseOn (dropEntry k L)) hp hst (.inl rfl) (by simp [depart_ring])
      (by simp) ?_ rfl rfl (.inl rfl) (dropEntry_pockets k _) (htally _ _ _ (by simp))
    simp [modLane]
  · next v c why hst => exact replaced_of_stranded hp hst (by simp [depart_ring]) (by simp) (by simp) (htally _ _ _ rfl)

theorem departure_replaced (s : State) : ∃ k r, Replaced k r s (departure s) ∧ Follows s.ring[k] r := by
  unfold departure
  split
  · exact ⟨0, _, (RecordsSame.refl s).replaced 0, .refl _⟩
  · next p hp => exact ⟨_, none, departRecord_replaced hp, .free _⟩

theorem purgeOne_replaced (b : Bool) (k : PocketNo) (s : State) :
    ∃ r, Replaced k r s (purgeOne b k s) ∧ Follows s.ring[k] r := by
  unfold purgeOne
  split
  · exact ⟨_, (RecordsSame.refl s).replaced k, .refl _⟩
  · next p hp =>
    refine ⟨none, ?_, .free _⟩
    dsimp only
    generalize hu : (if b = true then
        handReport (reportOf (tallyCount tallyUnsorted (purgeRelease k p s)) .unsorted k p true)
          (tallyCount tallyUnsorted (purgeRelease k p s))
      else tallyCount tallyUnsorted (purgeRelease k p s)) = u
    have hring : u.ring = s.ring := by subst hu; split <;> simp
    have hbanks : u.banks = (purgeRelease k p s).banks := by subst hu; split <;> simp
    have hlanes : u.lanes = (purgeRelease k p s).lanes := by subst hu; split <;> simp
    have htally : u.tally = (tallyCount tallyUnsorted (purgeRelease k p s)).tally := by subst hu; split <;> simp
    have hcounted : ∃ is, CountedAt true false is ∧ Rises is s (setRecord k none u) :=
      ⟨_, .unsorted, rises_tally_eq (rises_tallyCount tallyUnsorted (purgeRelease k p s)) (by simp) (by simp [htally])⟩
    have hset : (setRecord k none u).ring = s.ring.set k none := by simp [setRecord, hring]
    unfold purgeRelease at hbanks hlanes
    cases hst : p.st with
    | await =>
      simp only [hst] at hbanks hlanes
      exact replaced_of_await hp hst hset (by simpa using hbanks) (by simpa using hlanes) hcounted
    | routed v c =>
      simp only [hst] at hbanks hlanes
      exact replaced_of_routed hp hst (.inl rfl) hset (by simpa using hbanks) (by simpa using hlanes) hcounted
    | fired v c =>
      simp only [hst] at hbanks hlanes
      exact replaced_of_fired (g := fun L => releaseOn (dropEntry k L)) hp hst (.inl rfl) hset (by simpa using hbanks)
        (by simpa using hlanes) rfl rfl (.inl rfl) (dropEntry_pockets k _) hcounted
    | stranded v c why =>
      simp only [hst] at hbanks hlanes
      exact replaced_of_stranded hp hst hset (by simpa using hbanks) (by simpa using hlanes) hcounted

/-- A FIRED record whose lane's queue has its pocket in front. -/
theorem queue_head_of_match {s : State} {l : LaneNo} {e : ConfirmEntry} {rest : List ConfirmEntry}
    (hm : ConfirmQueuesMatch s) (hq : s.lanes[l].queue = e :: rest) :
    ∃ p v c, s.ring[e.pocket] = some p ∧ p.st = .fired v c ∧ c.lane = l := by
  have hany : (s.ring[e.pocket]).any (firedAt l) = true := ((hm l).2 e.pocket).mp (by rw [hq]; simp)
  obtain ⟨p, hp, hf⟩ := (Option.any_eq_true _ _).mp hany
  unfold firedAt at hf
  split at hf
  · next v c hst => exact ⟨p, v, c, hp, hst, by simpa using hf⟩
  · cases hf

theorem firedAt_iff (l : LaneNo) (p : Part) : firedAt l p = true ↔ ∃ v c, p.st = .fired v c ∧ c.lane = l := by
  unfold firedAt
  cases p.st <;> simp

/-- A lane's oldest entry leaves its queue, with whatever the rest of the act does at that lane and that record. -/
theorem head_pockets {s : State} {l : LaneNo} {e : ConfirmEntry} {rest : List ConfirmEntry}
    (hq : s.lanes[l].queue = e :: rest) : rest.map (·.pocket) = (queuePockets s l).erase e.pocket := by
  rw [queuePockets, hq]
  simp

/-- A queue taken from a lane without its record: the counts stay, and the queues did not match. -/
theorem replaced_of_unmatched {k : PocketNo} {l : LaneNo} {rest : List ConfirmEntry} {s t : State}
    (hn : ¬ ConfirmQueuesMatch s) (hring : t.ring = s.ring) (hbanks : t.banks = s.banks)
    (hlanes : t.lanes = (modLane l (fun L => { L with queue := rest }) s).lanes) (htally : t.tally = s.tally) :
    Replaced k s.ring[k] s t where
  ring := by simp [hring]
  inUse id := by simp [hbanks]
  reserved j := by rw [hlanes, shifted_same]; by_cases h : j = l <;> simp [modLane_at, h]
  capacity j := by rw [hlanes]; by_cases h : j = l <;> simp [modLane_at, h]
  delivered j := .inl (by rw [hlanes]; by_cases h : j = l <;> simp [modLane_at, h])
  room j h0 h1 := by rw [h0] at h1; cases h1
  queue hm := absurd hm hn
  tally := ⟨[], .stays _, rises_nil htally⟩

theorem takeWindowEnd_replaced (l : LaneNo) (s : State) :
    ∃ k r, Replaced k r s (takeWindowEnd l s) ∧ Follows s.ring[k] r := by
  have hidle : ∃ k r, Replaced k r s s ∧ Follows s.ring[k] r := ⟨0, _, (RecordsSame.refl s).replaced 0, .refl _⟩
  unfold takeWindowEnd
  split
  · exact hidle
  · next e rest hq =>
    split
    · generalize hu : raise .ejectMiss (countEjectMiss (modLane l (fun L => { L with queue := rest }) s)) = u
      have hring : u.ring = s.ring := by subst hu; simp
      have hlanes : u.lanes = (modLane l (fun L => { L with queue := rest }) s).lanes := by subst hu; simp
      have hbanks : u.banks = s.banks := by subst hu; simp
      have htally : u.tally = s.tally := by subst hu; simp
      by_cases hf : (s.ring[e.pocket]).any (firedAt l) = true
      · obtain ⟨p, hp, hfp⟩ := (Option.any_eq_true _ _).mp hf
        obtain ⟨v, c, hst, rfl⟩ := (firedAt_iff l p).mp hfp
        have hmiss : missRecord c.lane e.pocket u = modLane c.lane releaseOn
            (setRecord e.pocket (some { p with st := .stranded v (some c) .miss }) u) := by
          simp only [missRecord, hring, hp, hst, if_true]
        rw [hmiss]
        refine ⟨e.pocket, _, replaced_of_fired (g := fun L => releaseOn { L with queue := rest }) hp hst
          (.inr ⟨_, rfl⟩) (by simp [setRecord, hring]; rfl) (by simp [hbanks]) ?_ rfl rfl (.inl rfl) (head_pockets hq)
          ⟨[], .stays true, rises_nil (by simp [htally])⟩, .of_verdict hp (by simp [verdictOf, hst])⟩
        simp [modLane, hlanes]
      · have hmiss : missRecord l e.pocket u = u := by
          unfold missRecord
          rw [hring]
          split
          · next p hp =>
            split
            · next v c hst => 
              refine if_neg fun hl => hf ?_
              rw [hp]
              exact (firedAt_iff l p).mpr ⟨v, c, hst, hl⟩
            · rfl
          · rfl
        rw [hmiss]
        exact ⟨e.pocket, _, replaced_of_unmatched (fun hm => hf (((hm l).2 e.pocket).mp (by rw [hq]; simp))) hring hbanks
          hlanes htally, .refl _⟩
    · exact hidle

theorem deliver_replaced {l : LaneNo} {k : PocketNo} {p : Part} {s u : State} {rest : List ConfirmEntry} {v : Verdict}
    {c : Target} (hp : s.ring[k] = some p) (hst : p.st = .fired v c) (hl : c.lane = l)
    (hu : u = modLane l (fun L => { L with queue := rest }) s)
    (hq : rest.map (·.pocket) = (queuePockets s l).erase k) : Replaced k none s (deliver l k p u) := by
  subst hl hu
  refine replaced_of_fired (g := fun L => deliverOn { L with queue := rest }) hp hst (.inl rfl) (by simp [deliver_ring])
    (by simp) ?_ rfl rfl (.inr rfl) hq
    ⟨_, .delivered c.lane, rises_tally_eq (deliver_rises c.lane k p _) (by simp) rfl⟩
  simp [deliver_lanes, modLane]

theorem dropEdge_replaced (l : LaneNo) (s : State) :
    ∃ k r, Replaced k r s (dropEdge l s) ∧ Follows s.ring[k] r := by
  unfold dropEdge
  split
  · refine ⟨0, _, RecordsSame.replaced ?_ 0, .refl _⟩
    constructor <;> simp
  · next e rest hq =>
    by_cases hf : (s.ring[e.pocket]).any (firedAt l) = true
    · obtain ⟨p, hp, hfp⟩ := (Option.any_eq_true _ _).mp hf
      obtain ⟨v, c, hst, hl⟩ := (firedAt_iff l p).mp hfp
      have hconfirm : confirmRecord l e.pocket (modLane l (fun L => { L with queue := rest }) s) =
          deliver l e.pocket p (modLane l (fun L => { L with queue := rest }) s) := by
        have hring : (modLane l (fun L => { L with queue := rest }) s).ring = s.ring := by simp
        simp only [confirmRecord, hring, hp, hst, hl, if_true]
      rw [hconfirm]
      exact ⟨e.pocket, none, deliver_replaced hp hst hl rfl (head_pockets hq), .free _⟩
    · have hconfirm : confirmRecord l e.pocket (modLane l (fun L => { L with queue := rest }) s) =
          modLane l (fun L => { L with queue := rest }) s := by
        have hring : (modLane l (fun L => { L with queue := rest }) s).ring = s.ring := by simp
        unfold confirmRecord
        rw [hring]
        split
        · next p hp =>
          split
          · next v c hst =>
            refine if_neg fun hl => hf ?_
            rw [hp]
            exact (firedAt_iff l p).mpr ⟨v, c, hst, hl⟩
          · rfl
        · rfl
      rw [hconfirm]
      exact ⟨e.pocket, _, replaced_of_unmatched (fun hm => hf (((hm l).2 e.pocket).mp (by rw [hq]; simp))) (by simp)
        (by simp) rfl (by simp), .refl _⟩

/-- What a lane does at a phase event: nothing, a fire whose record is delivered, or one whose record awaits its drop. -/
theorem firePhase_cases (e : Option Travel) (l : LaneNo) (s : State) :
    firePhase e l s = s ∨ ∃ k p v c, k = pocketAt s s.lanes[l].setup.offset ∧ s.lanes[l].setup.offset < s.geo.pn ∧
      s.ring[k] = some p ∧ p.st = .routed v c ∧ c.lane = l ∧ s.mask.masked = false ∧ s.lanes[l].attr ≠ .disabled ∧
      (firePhase e l s = modLane l (fireOutput e s.trk.travel) (deliver l k p s) ∨
        firePhase e l s = modLane l (fun M => fireOutput e s.trk.travel
          { M with queue := M.queue ++ [{ pocket := k, fire := s.trk.travel,
                                          windowEnd := s.trk.travel + BitVec.ofNat 32 M.setup.window }] })
          (setRecord k (some { p with st := .fired v c }) s)) := by
  unfold firePhase
  dsimp only
  split
  · next hphase =>
    split
    · exact .inl rfl
    · next p hp =>
      split
      · next v c hst =>
        split
        · next ht =>
          obtain ⟨⟨hl, hm⟩, ha⟩ : (c.lane = l ∧ s.mask.masked = false) ∧ s.lanes[l].attr ≠ .disabled := by
            simpa [fireTaken] using ht
          refine .inr ⟨_, p, v, c, rfl, hphase.2, hp, hst, hl, hm, ha, ?_⟩
          split
          · exact .inr rfl
          · exact .inl rfl
        · exact .inl rfl
      · exact .inl rfl
  · exact .inl rfl

/-- A fire changes nothing of a lane but its output. -/
theorem fireOutput_eq (e : Option Travel) (f : Travel) (L : Lane) :
    fireOutput e f L = { L with output := (fireOutput e f L).output } := by
  unfold fireOutput
  cases L.output <;> rfl

@[simp] theorem fireOutput_keeps (e : Option Travel) (f : Travel) (L : Lane) :
    (fireOutput e f L).attr = L.attr ∧ (fireOutput e f L).capacity = L.capacity ∧
      (fireOutput e f L).delivered = L.delivered ∧ (fireOutput e f L).reserved = L.reserved ∧
      (fireOutput e f L).setup = L.setup ∧ (fireOutput e f L).queue = L.queue := by
  rw [fireOutput_eq]
  exact ⟨rfl, rfl, rfl, rfl, rfl, rfl⟩

theorem firePhase_replaced (e : Option Travel) (l : LaneNo) (s : State) :
    ∃ k r, Replaced k r s (firePhase e l s) ∧ Follows s.ring[k] r := by
  obtain he | ⟨k, p, v, c, -, -, hp, hst, rfl, -, -, he | he⟩ := firePhase_cases e l s
  · rw [he]
    exact ⟨0, _, (RecordsSame.refl s).replaced 0, .refl _⟩
  · rw [he]
    refine ⟨k, none, replaced_of_lane (c := c.lane) (g := fun L => fireOutput e s.trk.travel (deliverOn L)) hp
      (by simp [deliver_ring]) (by simp) (by simp [modLane, deliver_lanes]) (awaitsOn_eq_false (by simp [hst]))
      (fun j hj => by simp [holdsPlaceAt, firedAt, hst, Ne.symm hj]) (fireOutput_keeps ..).2.1 ?_
      (.inr ⟨(fireOutput_keeps ..).2.2.1, ?_, rfl⟩)
      (fun h => by cases h) (fun _ => ?_)
      ⟨_, .delivered c.lane, rises_tally_eq (deliver_rises c.lane k p s) rfl (by simp)⟩, .free _⟩
    · simp [holdsPlaceAt, hst, deliverOn]
    · simp [holdsPlaceAt, hst]
    · simp [firedAt, hst, deliverOn, queuePockets]
  · rw [he]
    refine ⟨k, _, replaced_of_lane (c := c.lane) (g := fun M => fireOutput e s.trk.travel
        { M with queue := M.queue ++ [{ pocket := k, fire := s.trk.travel,
                                        windowEnd := s.trk.travel + BitVec.ofNat 32 M.setup.window }] })
      hp rfl (by simp) (by simp [modLane]) (fun id => ?_)
      (fun j hj => by simp [holdsPlaceAt, firedAt, hst, Ne.symm hj])
      (fireOutput_keeps ..).2.1 ?_ (.inl (fireOutput_keeps ..).2.2.1) (fun _ => by simp [holdsPlaceAt, hst])
      (fun _ => ?_) ⟨[], .stays true, rises_nil (by simp)⟩, .of_verdict hp (by simp [verdictOf, hst])⟩
    · rw [awaitsOn_eq_false (by simp [hst]), Option.any_some, awaitsOn_eq_false (by simp)]
    · simp [holdsPlaceAt, hst]
    · simp [firedAt, hst, queuePockets]

/-- A mask entry changes nothing of a lane but its output. -/
theorem maskEntryOn_eq (f : Travel) (L : Lane) : maskEntryOn f L = { L with output := (maskEntryOn f L).output } := by
  unfold maskEntryOn
  split
  · rfl
  · cases h : L.output <;> simp

/-- A mask exit changes nothing of a lane but its output. -/
theorem maskExitOn_eq (f : Travel) (L : Lane) : maskExitOn f L = { L with output := (maskExitOn f L).output } := by
  unfold maskExitOn
  split <;> rfl

/-- The mask's entry, its exit and homing change the lanes' outputs alone. -/
theorem enterMask_lane (s : State) (l : LaneNo) : ∃ o, (enterMask s).lanes[l] = { s.lanes[l] with output := o } := by
  unfold enterMask
  dsimp only
  split
  · exact ⟨_, by simpa using maskEntryOn_eq _ _⟩
  · exact ⟨s.lanes[l].output, by simp⟩

theorem exitMask_lane (s : State) (l : LaneNo) : ∃ o, (exitMask s).lanes[l] = { s.lanes[l] with output := o } := by
  unfold exitMask
  dsimp only
  split
  · exact ⟨_, by simpa using maskExitOn_eq _ _⟩
  · exact ⟨s.lanes[l].output, by simp⟩

theorem addReason_lane (a b c : Bool) (s : State) (l : LaneNo) :
    ∃ o, (addReason a b c s).lanes[l] = { s.lanes[l] with output := o } := by
  unfold addReason
  split
  · exact ⟨s.lanes[l].output, rfl⟩
  · exact enterMask_lane _ l

theorem home_lane (s : State) (l : LaneNo) : ∃ o, (home s).lanes[l] = { s.lanes[l] with output := o } := by
  unfold home
  dsimp only
  split
  · exact ⟨_, by simpa using maskEntryOn_eq _ _⟩
  · exact ⟨s.lanes[l].output, rfl⟩

theorem home_keeps (s : State) :
    (home s).ring = s.ring ∧ (home s).banks = s.banks ∧ (home s).tally = s.tally ∧ (home s).geo = s.geo ∧
      (home s).stations = s.stations ∧ (home s).mask = s.mask ∧ (home s).report = s.report := by
  unfold home
  dsimp only
  split <;> simp

/-- Every act at the turret but a load replaces at most one record, whose verdict it keeps. -/
theorem TurretAct.replaced {s t : State} (h : TurretAct s t) : ∃ k r, Replaced k r s t ∧ Follows s.ring[k] r := by
  have hsame (hst : RecordsSame s t) : ∃ k r, Replaced k r s t ∧ Follows s.ring[k] r :=
    ⟨0, _, hst.replaced 0, .refl _⟩
  cases h with
  | slot k p m x _ hp ha => exact ⟨k, _, slot_replaced m x hp ha, .of_await hp ha _⟩
  | classify k => exact ⟨k, classify_replaced k s⟩
  | windowEnd l => exact takeWindowEnd_replaced l s
  | drop l => exact dropEdge_replaced l s
  | passCheck l => exact passCheck_replaced l s
  | departure => exact departure_replaced s
  | fire e l => exact firePhase_replaced e l s
  | purgeOne b k => exact ⟨k, purgeOne_replaced b k s⟩
  | station m g => exact hsame {}
  | rest l r => exact hsame { lanes := fun j => by by_cases h : j = l <;> simp [modLane_at, h] }
  | addReason a b c =>
    exact hsame { lanes := fun l => by obtain ⟨o, ho⟩ := addReason_lane a b c s l; simp only [ho, and_self] }
  | exitMask =>
    exact hsame { lanes := fun l => by obtain ⟨o, ho⟩ := exitMask_lane s l; simp only [ho, and_self] }
  | clean n => exact hsame {}
  | track v => exact hsame {}
  | home =>
    obtain ⟨hring, hbanks, htally, -⟩ := home_keeps s
    exact hsame {
      ring := hring, banks := hbanks, tally := htally
      lanes := fun l => by obtain ⟨o, ho⟩ := home_lane s l; simp only [ho, and_self] }

end Sys2Proof.Machine
end

section
/-!
PROOF. The counts of records: in-use and reserved counts, confirm queues and the tally, kept by every step (O54, O55, O56).
-/

namespace Sys2Proof.Machine

/-! ## Loads -/

/-- The state after a load is taken (R29, R31, R32). -/
def loadTaken (s : State) : State :=
  tallyCount tallyLoaded
    (modBank s.banks.live (fun b => { b with inUse := b.inUse + 1 })
      ((setRecord (pocketAt s 0) (some (newPart s)) s).setSerial (nextSerial s.serial)))

theorem loadSample_cases (s : State) :
    loadSample s = s ∨ (phase s = s.geo.loadPhase ∧ loaden s = true ∧ s.pins.pps = true ∧ s.ring[pocketAt s 0] = none) ∧
      loadSample s = loadTaken s := by
  unfold loadSample
  dsimp only
  split
  · next h => exact .inr ⟨h, rfl⟩
  · exact .inl rfl

theorem loadTaken_replaced {s : State} (h : s.ring[pocketAt s 0] = none) :
    Replaced (pocketAt s 0) (some (newPart s)) s (loadTaken s) where
  ring := by simp [loadTaken, setRecord]
  inUse id := by
    rw [h]
    by_cases hid : id = s.banks.live
    · simp [loadTaken, modBank_at, hid, awaitsOn, newPart]
    · have hother : (s.banks.live == id) = false := beq_false_of_ne (Ne.symm hid)
      simp [loadTaken, modBank_at, hid, awaitsOn, newPart, hother]
  reserved l := by simp [h, loadTaken, holdsPlaceAt, newPart]
  capacity l := by simp [loadTaken]
  delivered l := .inl (by simp [loadTaken])
  room l _ h1 := by simp [holdsPlaceAt, newPart] at h1
  queue _ l := by simp [h, loadTaken, firedAt, newPart, queuePockets]
  tally := by
    rw [h]
    exact ⟨_, .loaded, rises_tally_eq (rises_tallyCount tallyLoaded s) rfl (by simp [loadTaken, tallyCount])⟩

theorem loadSample_replaced (s : State) : ∃ k r, Replaced k r s (loadSample s) := by
  obtain he | ⟨⟨-, -, -, hk⟩, he⟩ := loadSample_cases s <;> rw [he]
  · exact ⟨0, _, (RecordsSame.refl s).replaced 0⟩
  · exact ⟨_, _, loadTaken_replaced hk⟩

/-! ## Invariants of the records -/

/-- The records and all that counts or queues them agree. -/
structure CountsSame (s t : State) : Prop where
  ring : t.ring = s.ring := by simp
  inUse : ∀ id, (bankAt t.banks id).inUse = (bankAt s.banks id).inUse := by simp
  lanes : ∀ l : LaneNo, t.lanes[l].reserved = s.lanes[l].reserved ∧ t.lanes[l].capacity = s.lanes[l].capacity ∧
    t.lanes[l].delivered = s.lanes[l].delivered ∧ t.lanes[l].queue = s.lanes[l].queue := by simp
  tally : t.tally = s.tally := by simp

theorem CountsSame.replaced {s t : State} (h : CountsSame s t) : Replaced 0 s.ring[(0 : PocketNo)] s t where
  ring := by simp [h.ring]
  inUse id := by simp [h.inUse]
  reserved l := by simpa using (h.lanes l).1
  capacity l := (h.lanes l).2.1
  delivered l := .inl (h.lanes l).2.2.1
  room l h0 h1 := by rw [h0] at h1; cases h1
  queue _ l := by rw [shiftedQueue_same, queuePockets, (h.lanes l).2.2.2]; rfl
  tally := ⟨[], .stays _, fun i => by simp [h.tally]⟩

/-- A predicate on the records and their counts that a replaced record and the three frames that write a count keep. -/
structure RecordInvariant (P : State → Prop) : Prop where
  replaced : ∀ {k r s t}, Replaced k r s t → P s → P t
  laneState : ∀ o s, o.capacity ≤ 65535 → P s → P (applyLaneOrder o s).1
  laneEmpty : ∀ l s, P s → P (modLane l (fun L => { L with delivered := 0 }) s)
  tallyClear : ∀ s, P s → P (s.setTally ((Vector.replicate 49 0).set tallyLoaded (liveRecords s)))
  fullReset : ∀ a b m s, P (fullReset a b m s)

theorem RecordInvariant.same {P : State → Prop} (hP : RecordInvariant P) {s t : State} (h : CountsSame s t) (hs : P s) :
    P t := hP.replaced h.replaced hs

theorem RecordInvariant.purgeOne {P : State → Prop} (hP : RecordInvariant P) (b : Bool) (k : PocketNo) (s : State) (hs : P s) :
    P (Machine.purgeOne b k s) := by
  obtain ⟨r, hr, -⟩ := purgeOne_replaced b k s
  exact hP.replaced hr hs

/-- What the announcement of IDLE does after its purge. -/
def idled (s : State) : State :=
  (((mapLanes idleOn (s.setStations (s.stations.map fun x => { x with pulseEnd := none }))).setMask
    (liveMask s.mask))).setLoadPause false

theorem announceIdle_eq (b : Bool) (s : State) :
    announceIdle b s = idled (purge (loadPocket s) b (s.setTrk { s.trk with st := .idle })) := rfl

theorem idled_countsSame (s : State) : CountsSame s (idled s) where
  ring := by simp [idled]
  inUse := by simp [idled]
  lanes l := by simp [idled, mapLanes, idleOn]
  tally := by simp [idled]

theorem RecordInvariant.idle {P : State → Prop} (hP : RecordInvariant P) (b : Bool) (s : State) (hs : P s) :
    P (announceIdle b s) := by
  have hpurge (xs : List PocketNo) (t : State) (ht : P t) : P (xs.foldl (fun u k => Machine.purgeOne b k u) t) := by
    induction xs generalizing t with
    | nil => exact ht
    | cons k xs ih => exact ih _ (hP.purgeOne b k t ht)
  rw [announceIdle_eq]
  exact hP.same (idled_countsSame _) (hpurge _ _ (hP.same (s := s) (by constructor <;> simp) hs))

theorem writeStaging_countsSame (tb : Table) (s : State) : CountsSame s (writeStaging tb s) where
  ring := by simp [writeStaging]
  inUse id := by
    rw [writeStaging, modBank_at]
    split
    · next h => rw [h]
    · rfl
  lanes := by simp [writeStaging]
  tally := by simp [writeStaging]

theorem bankAt_of_parts (bs : BankStore) (g : Word16) (id : BankId) (j : BankId) :
    bankAt { bs with generation := g, live := id } j = bankAt bs j := by cases j <;> rfl

theorem swapBanks_countsSame (s : State) : CountsSame s (swapBanks s) where
  ring := by simp [swapBanks]
  inUse id := by
    simp only [swapBanks, State.setBanks_banks, bankAt_of_parts, modBank_at]
    split
    · next h => rw [h]
    · rfl
  lanes := by simp [swapBanks]
  tally := by simp [swapBanks]

theorem RecordInvariant.turretInvariant {P : State → Prop} (hP : RecordInvariant P) : TurretInvariant P where
  body h hs := hP.same
    { ring := h.ring, inUse := fun id => by rw [h.banks], lanes := fun l => by simp [h.lanes], tally := h.tally } hs
  turret h hs := by
    obtain ⟨k, r, hr, -⟩ := h.replaced
    exact hP.replaced hr hs
  load s hs := by
    obtain ⟨k, r, hr⟩ := loadSample_replaced s
    exact hP.replaced hr hs
  setting {s t} h hs := by
    cases h with
    | laneState o _ hcap => exact hP.laneState o s hcap hs
    | laneEmpty l => exact hP.laneEmpty l s hs
    | tallyClear => exact hP.tallyClear s hs
    | stop => exact hP.idle true s hs
    | write tb => exact hP.same (writeStaging_countsSame tb s) hs
    | swap => exact hP.same (swapBanks_countsSame s) hs
    | laneSetup l u =>
      exact hP.same { lanes := fun j => by by_cases h : j = l <;> simp [modLane_at, h] } hs
    | lock => exact hP.same { inUse := fun id => by cases id <;> rfl } hs
    | geometry | station | mode | format | start | pause => exact hP.same {} hs
  idle := hP.idle
  idleStations v s _ hs := hP.same {} hs
  fullReset := hP.fullReset

/-! ## The counts -/

theorem inUseMatches_iff (s : State) :
    InUseMatches s ↔ ∀ id, (bankAt s.banks id).inUse = recordsWith (awaitsOn id) s :=
  ⟨fun h id => by cases id; exacts [h.1, h.2], fun h => ⟨h .a, h .b⟩⟩

/-- The counts of O54 together: the capacity of a lane is kept by its reserved count, which the records bound. -/
def CountsMatch (s : State) : Prop := InUseMatches s ∧ ReservedMatches s ∧ LanesFit s

theorem Replaced.inUseMatches {k : PocketNo} {r : Option Part} {s t : State} (h : Replaced k r s t)
    (hs : InUseMatches s) : InUseMatches t := by
  rw [inUseMatches_iff] at *
  intro id
  rw [h.inUse, hs, recordsWith_set h.ring]

theorem Replaced.reservedMatches {k : PocketNo} {r : Option Part} {s t : State} (h : Replaced k r s t)
    (hs : ReservedMatches s) : ReservedMatches t := fun l => by
  rw [h.reserved, hs, recordsWith_set h.ring]

/-- A lane with room takes one reservation within its capacity. -/
theorem fits_of_hasRoom {L : Lane} (h : hasRoom L = true) (hc : 0 < L.capacity) :
    L.delivered + (L.reserved + 1) ≤ L.capacity := by
  have : L.capacity = 0 ∨ L.delivered + L.reserved < L.capacity := by
    simpa [hasRoom] using ((Bool.and_eq_true _ _).mp h).2
  omega

theorem satInc_le_succ (top n : Nat) : satInc top n ≤ n + 1 := by
  unfold satInc
  split <;> omega

theorem Replaced.lanesFit {k : PocketNo} {r : Option Part} {s t : State} (h : Replaced k r s t)
    (hr : ReservedMatches s) (hs : LanesFit s) : LanesFit t := by
  intro l
  obtain ⟨hc, hd, hsum⟩ := hs l
  have hpos := recordsWith_pos (test := holdsPlaceAt l) (s := s) (k := k)
  rw [← hr l] at hpos
  have hreserved := h.reserved l
  have hroom := h.room l
  have hdelivered := h.delivered l
  have hsat : satInc 65535 s.lanes[l].delivered ≤ 65535 := satInc_le hd
  have hup := satInc_le_succ 65535 s.lanes[l].delivered
  rw [h.capacity l]
  revert hreserved hroom hdelivered hpos
  cases (s.ring[k]).any (holdsPlaceAt l) <;> cases r.any (holdsPlaceAt l) <;> intro hpos hreserved hroom hdelivered
  · simp only [shifted_same, Bool.false_eq_true, false_and, and_false, or_false] at hreserved hdelivered
    rw [hreserved, hdelivered]
    exact ⟨hc, hd, hsum⟩
  · simp only [shifted_up, Bool.false_eq_true, false_and, and_false, or_false] at hreserved hdelivered
    rw [hreserved, hdelivered]
    exact ⟨hc, hd, fits_of_hasRoom (hroom rfl rfl)⟩
  · have hone := hpos rfl
    simp only [shifted_down] at hreserved
    rw [hreserved]
    obtain hdelivered | ⟨hdelivered, -⟩ := hdelivered <;> rw [hdelivered]
    · exact ⟨hc, hd, fun h0 => by have := hsum h0; omega⟩
    · exact ⟨hc, hsat, fun h0 => by have := hsum h0; omega⟩
  · simp only [shifted_same, Bool.true_eq_false, and_false, or_false] at hreserved hdelivered
    rw [hreserved, hdelivered]
    exact ⟨hc, hd, hsum⟩

/-- A lane after a LANE-STATE: its attribute, and the capacity fitted to its counts (R132). -/
def ordered (o : LaneOrder) (L : Lane) : Lane :=
  { L with attr := o.attr, capacity := fitCapacity o.capacity (L.delivered + L.reserved) }

/-- A LANE-STATE changes a lane's attribute and capacity, and no other count of the lanes or the records. -/
theorem applyLaneOrder_lanes (o : LaneOrder) (s : State) :
    (applyLaneOrder o s).1.lanes =
      (modLane o.lane (ordered o) s).lanes := by
  unfold applyLaneOrder
  dsimp only
  split <;> simp [modLane, ordered]

theorem applyLaneOrder_keeps (o : LaneOrder) (s : State) :
    (applyLaneOrder o s).1.ring = s.ring ∧ (applyLaneOrder o s).1.banks = s.banks ∧
      (applyLaneOrder o s).1.tally = s.tally ∧ (applyLaneOrder o s).1.geo = s.geo ∧
      (applyLaneOrder o s).1.trk = s.trk ∧ (applyLaneOrder o s).1.stations = s.stations ∧
      (applyLaneOrder o s).1.mask = s.mask := by
  unfold applyLaneOrder
  dsimp only
  split <;> simp

theorem recordsWith_ring {test : Part → Bool} {s t : State} (h : t.ring = s.ring) :
    recordsWith test t = recordsWith test s := by rw [recordsWith_eq, recordsWith_eq, h]

theorem applyLaneOrder_countsMatch (o : LaneOrder) (s : State) (hcap : o.capacity ≤ 65535) (hs : CountsMatch s) :
    CountsMatch (applyLaneOrder o s).1 := by
  obtain ⟨hring, hbanks, -⟩ := applyLaneOrder_keeps o s
  obtain ⟨huse, hres, hfit⟩ := hs
  refine ⟨?_, fun l => ?_, fun l => ?_⟩
  · simpa only [InUseMatches, hbanks, recordsWith_ring hring] using huse
  · rw [recordsWith_ring hring, applyLaneOrder_lanes, ← hres l]
    by_cases h : l = o.lane
    · subst h; rw [modLane_self]; rfl
    · rw [modLane_other h]
  · rw [applyLaneOrder_lanes]
    by_cases h : l = o.lane
    · subst h
      rw [modLane_self]
      obtain ⟨-, hd, -⟩ := hfit o.lane
      unfold ordered fitCapacity
      dsimp only
      split
      · exact ⟨hcap, hd, by omega⟩
      · split
        · exact ⟨by omega, hd, by omega⟩
        · exact ⟨by omega, hd, by omega⟩
    · rw [modLane_other h]
      exact hfit l

theorem countsMatch_recordInvariant : RecordInvariant CountsMatch where
  replaced h hs := ⟨h.inUseMatches hs.1, h.reservedMatches hs.2.1, h.lanesFit hs.2.1 hs.2.2⟩
  laneState := applyLaneOrder_countsMatch
  laneEmpty l s hs := by
    obtain ⟨huse, hres, hfit⟩ := hs
    refine ⟨?_, fun j => ?_, fun j => ?_⟩
    · exact huse
    · rw [recordsWith_ring (show (modLane l _ s).ring = s.ring by simp), ← hres j]
      by_cases h : j = l
      · subst h; rw [modLane_self]
      · rw [modLane_other h]
    · by_cases h : j = l
      · subst h
        rw [modLane_self]
        obtain ⟨hc, -, hsum⟩ := hfit j
        exact ⟨hc, Nat.zero_le _, fun h0 => by have := hsum h0; dsimp only; omega⟩
      · rw [modLane_other h]
        exact hfit j
  tallyClear s hs := hs
  fullReset a b m s := by
    have hnone (test : Part → Bool) : recordsWith test (fullReset a b m s) = 0 := by
      rw [recordsWith_eq]
      simp [fullReset, State.atRelease, Vector.countP_replicate]
    refine ⟨⟨?_, ?_⟩, fun l => ?_, fun l => ?_⟩
    · rw [hnone]; rfl
    · rw [hnone]; rfl
    · rw [hnone]; simp [fullReset, State.atRelease, Lane.reset]
    · simp [fullReset, State.atRelease, Lane.reset]

/-- Settles O54: each act replaces one record at most, and the counts follow that record. -/
theorem countsMatchRecords : Obligations.CountsMatchRecords := by
  unfold Obligations.CountsMatchRecords
  exact fun s t huse hres hfit h =>
    countsMatch_recordInvariant.turretInvariant.stepInvariant.step (P := CountsMatch) ⟨huse, hres, hfit⟩ h

/-! ## The confirm queues -/

theorem confirmQueuesMatch_iff (s : State) :
    ConfirmQueuesMatch s ↔ ∀ l : LaneNo, (queuePockets s l).Nodup ∧
      ∀ k : PocketNo, k ∈ queuePockets s l ↔ (s.ring[k]).any (firedAt l) = true := Iff.rfl

/-- A pocket's record after one record has been replaced. -/
theorem Replaced.at {k : PocketNo} {r : Option Part} {s t : State} (h : Replaced k r s t) (j : PocketNo) :
    t.ring[j] = if j = k then r else s.ring[j] := by
  have := setRecord_at k j r s
  rw [h.ring]
  simpa [setRecord] using this

theorem Replaced.confirmQueuesMatch {k : PocketNo} {r : Option Part} {s t : State} (h : Replaced k r s t)
    (hs : ConfirmQueuesMatch s) : ConfirmQueuesMatch t := by
  rw [confirmQueuesMatch_iff]
  intro l
  obtain ⟨hnodup, hmem⟩ := (confirmQueuesMatch_iff s).mp hs l
  have hq := h.queue hs l
  have hk := hmem k
  refine ⟨?_, fun j => ?_⟩
  · rw [hq]
    revert hk
    cases (s.ring[k]).any (firedAt l) <;> cases r.any (firedAt l) <;> intro hk
    · simpa using hnodup
    · have hout : k ∉ queuePockets s l := fun hin => by simpa using hk.mp hin
      simpa [List.nodup_append, hnodup] using fun j hj (he : j = k) => hout (he ▸ hj)
    · simpa using hnodup.erase k
    · simpa using hnodup
  · rw [hq, h.at]
    have hj := hmem j
    by_cases he : j = k
    · subst he
      rw [if_pos rfl]
      revert hk
      cases (s.ring[j]).any (firedAt l) <;> cases r.any (firedAt l) <;> intro hk
      · simpa using hk
      · simp
      · simpa using hnodup.not_mem_erase
      · simpa using hk
    · rw [if_neg he, ← hj]
      cases (s.ring[k]).any (firedAt l) <;> cases r.any (firedAt l)
      · simp
      · simp [he]
      · simpa using List.mem_erase_of_ne he
      · simp

theorem confirmQueuesMatch_of_same {s t : State} (hring : t.ring = s.ring)
    (hqueue : ∀ l : LaneNo, t.lanes[l].queue = s.lanes[l].queue) (hs : ConfirmQueuesMatch s) : ConfirmQueuesMatch t :=
  fun l => by rw [hqueue, hring]; exact hs l

theorem confirmQueuesMatch_recordInvariant : RecordInvariant ConfirmQueuesMatch where
  replaced h := h.confirmQueuesMatch
  laneState o s _ := by
    refine confirmQueuesMatch_of_same (applyLaneOrder_keeps o s).1 fun l => ?_
    rw [applyLaneOrder_lanes]
    by_cases h : l = o.lane
    · subst h; rw [modLane_self]; rfl
    · rw [modLane_other h]
  laneEmpty l s := by
    refine confirmQueuesMatch_of_same (by simp) fun j => ?_
    by_cases h : j = l
    · subst h; rw [modLane_self]
    · rw [modLane_other h]
  tallyClear s hs := hs
  fullReset a b m s l := by simp [fullReset, State.atRelease, Lane.reset]

/-- Settles O56: a fire puts its pocket into the queue, and whatever ends FIRED takes it out. -/
theorem confirmQueuesStayMatched : Obligations.ConfirmQueuesStayMatched := by
  unfold Obligations.ConfirmQueuesStayMatched
  exact fun s t hs h => confirmQueuesMatch_recordInvariant.turretInvariant.stepInvariant.step hs h

end Sys2Proof.Machine
end

section
/-!
PROOF. The tally's account of the records (O55).
-/

namespace Sys2Proof.Machine

/-- One where a tally entry is named. -/
def namedIn (is : List (Fin 49)) (i : Fin 49) : Nat := if i ∈ is then 1 else 0

/-- Short of its largest value after the change, a tally entry rises by one exactly where it is named. -/
theorem Rises.at {is : List (Fin 49)} {s t : State} (h : Rises is s t) {i : Fin 49} (ht : t.tally[i] < 4294967295) :
    s.tally[i] < 4294967295 ∧ t.tally[i] = s.tally[i] + namedIn is i := by
  have hi := h i
  unfold namedIn
  split at hi
  · next hin =>
    rw [if_pos hin]
    unfold satInc at hi
    split at hi <;> omega
  · next hout =>
    rw [if_neg hout]
    omega

/-- A record's count entries add up: LOADED and the outcomes move with the record, and the lanes' entries with DELIVERED. -/
theorem CountedAt.balanced {a b : Bool} {is : List (Fin 49)} (h : CountedAt a b is) :
    namedIn is tallyLoaded + a.toNat =
        namedIn is tallyDelivered + namedIn is tallyDumped + namedIn is tallyUnsorted + b.toNat ∧
      (allLanes.map fun l => namedIn is (tallyLane l)).sum = namedIn is tallyDelivered := by
  cases h with
  | stays => decide +revert
  | classed v =>
    have hclass (i : Fin 49) (hi : 29 ≤ i.val) : namedIn [tallyClass v] i = 0 := by
      refine if_neg fun hin => ?_
      obtain rfl := List.mem_singleton.mp hin
      have : (tallyClass v).val < 29 := by cases v <;> simp [tallyClass]; omega
      omega
    refine ⟨?_, ?_⟩
    · simp [hclass tallyLoaded (by decide), hclass tallyDelivered (by decide), hclass tallyDumped (by decide),
        hclass tallyUnsorted (by decide)]
    · rw [hclass tallyDelivered (by decide)]
      exact List.sum_eq_zero fun n hn => by
        obtain ⟨l, -, rfl⟩ := List.mem_map.mp hn
        exact hclass _ (by simp [tallyLane])
  | loaded => decide
  | delivered l => decide +revert
  | dumped => decide
  | unsorted => decide

theorem liveRecords_eq (s : State) : recordsWith (fun _ => true) s = liveRecords s := by
  rw [recordsWith_eq, liveRecords]
  congr 1

theorem Replaced.tallyBalances {k : PocketNo} {r : Option Part} {s t : State} (h : Replaced k r s t)
    (hs : TallyBalances s) : TallyBalances t := by
  intro ht
  obtain ⟨is, hcounted, hrises⟩ := h.tally
  have hat (i : Fin 49) : t.tally[i] = s.tally[i] + namedIn is i := (hrises.at (ht i)).2
  obtain ⟨hloaded, hlanes⟩ := hs fun i => (hrises.at (ht i)).1
  obtain ⟨hmove, hlane⟩ := hcounted.balanced
  have hrecords := recordsWith_set (test := fun _ => true) h.ring
  have hpos := recordsWith_pos (test := fun _ => true) (s := s) (k := k)
  have hlive (x : Option Part) : x.any (fun _ => true) = x.isSome := by cases x <;> rfl
  rw [hlive] at hrecords hpos
  rw [hlive] at hrecords
  refine ⟨?_, ?_⟩
  · rw [hat, hat, hat, hat]
    revert hmove hrecords hpos
    cases (s.ring[k]).isSome <;> cases r.isSome <;> simp only [Bool.toNat_false, Bool.toNat_true, shifted_same, shifted_up,
      shifted_down, forall_const] <;> omega
  · simp only [hat, List.sum_map_add] at hlanes ⊢
    rw [hlanes, hlane]

theorem tallyBalances_recordInvariant : RecordInvariant TallyBalances where
  replaced h := h.tallyBalances
  laneState o s _ hs := by
    obtain ⟨hring, -, htally, -⟩ := applyLaneOrder_keeps o s
    simpa only [TallyBalances, htally, recordsWith_ring hring] using hs
  laneEmpty l s hs := hs
  tallyClear s _ := by
    intro _
    have hat (i : Fin 49) (hi : tallyLoaded ≠ i) :
        ((Vector.replicate 49 0).set tallyLoaded (liveRecords s))[i] = 0 := by
      rw [Fin.getElem_fin, Vector.getElem_set_ne _ _ (fun h => hi (Fin.ext h))]
      simp
    have hloaded : ((Vector.replicate 49 0).set tallyLoaded (liveRecords s))[tallyLoaded] = liveRecords s := by simp
    have hlane (l : LaneNo) : tallyLoaded ≠ tallyLane l := by decide +revert
    simp only [State.setTally_tally, hat tallyDelivered (by decide), hat tallyDumped (by decide),
      hat tallyUnsorted (by decide), hloaded, hat _ (hlane _)]
    refine ⟨?_, by decide⟩
    rw [Nat.zero_add, ← liveRecords_eq]
    exact (recordsWith_ring rfl).symm
  fullReset a b m s := by
    intro _
    have hnone : recordsWith (fun _ => true) (fullReset a b m s) = 0 := by
      rw [recordsWith_eq]
      simp [fullReset, State.atRelease, Vector.countP_replicate]
    rw [hnone]
    refine ⟨?_, ?_⟩ <;> simp [fullReset, State.atRelease]

/-- Settles O55: what counts a record moves with the record. -/
theorem tallyStaysBalanced : Obligations.TallyStaysBalanced := by
  unfold Obligations.TallyStaysBalanced
  exact fun s t hs h => tallyBalances_recordInvariant.turretInvariant.stepInvariant.step hs h

end Sys2Proof.Machine
end

section
/-!
PROOF. What no act changes: the geometry, the stations' and lanes' setup, the tables and the lock; and when a lane's output
becomes active. The mask's consistency (O51).
-/

namespace Sys2Proof.Machine

/-! ## What an act leaves of a lane -/

/-- A lane after an act: its attribute, capacity and setup are as they were, and its output is active only if it was, or if
the given condition for a fire holds. -/
structure LaneMoves (fires : Prop) (L M : Lane) : Prop where
  attr : M.attr = L.attr := by rfl
  capacity : M.capacity = L.capacity := by rfl
  setup : M.setup = L.setup := by rfl
  active : isActive M = true → isActive L = true ∨ fires := by exact .inl

theorem LaneMoves.refl (fires : Prop) (L : Lane) : LaneMoves fires L L := {}

theorem LaneMoves.trans {fires : Prop} {L M N : Lane} (h : LaneMoves fires L M) (h' : LaneMoves fires M N) :
    LaneMoves fires L N where
  attr := h'.attr.trans h.attr
  capacity := h'.capacity.trans h.capacity
  setup := h'.setup.trans h.setup
  active ha := (h'.active ha).elim h.active .inr

/-- Every lane of a state after an act. -/
def LanesMove (fires : Prop) (s t : State) : Prop := ∀ l : LaneNo, LaneMoves fires s.lanes[l] t.lanes[l]

theorem LanesMove.of_eq {fires : Prop} {s t : State} (h : t.lanes = s.lanes) : LanesMove fires s t :=
  fun l => by rw [h]; exact .refl ..

theorem LanesMove.trans {fires : Prop} {s t u : State} (h : LanesMove fires s t) (h' : LanesMove fires t u) :
    LanesMove fires s u := fun l => (h l).trans (h' l)

theorem lanesMove_modLane {fires : Prop} {l : LaneNo} {g : Lane → Lane} {s t : State}
    (ht : t.lanes = (modLane l g s).lanes) (h : LaneMoves fires s.lanes[l] (g s.lanes[l])) : LanesMove fires s t :=
  fun j => by
    rw [ht]
    by_cases hj : j = l
    · subst hj; rw [modLane_self]; exact h
    · rw [modLane_other hj]; exact .refl ..

theorem lanesMove_inactive {fires : Prop} {l : LaneNo} {r : Lane → Rest} {s t : State}
    (ht : t.lanes = (modLane l (fun L => { L with output := .inactive (r L) }) s).lanes) : LanesMove fires s t :=
  lanesMove_modLane ht { active := fun h => by simp [isActive] at h }

theorem takeWindowEnd_lanesMove (fires : Prop) (l : LaneNo) (s : State) : LanesMove fires s (takeWindowEnd l s) := by
  have hmiss (k : PocketNo) (t : State) : LanesMove fires t (missRecord l k t) := by
    unfold missRecord
    split
    · split
      · split
        · exact lanesMove_modLane (l := l) (g := releaseOn) (by simp [modLane]) {}
        · exact .of_eq rfl
      · exact .of_eq rfl
    · exact .of_eq rfl
  unfold takeWindowEnd
  split
  · exact .of_eq rfl
  · split
    · exact LanesMove.trans (lanesMove_modLane (by simp; rfl) {}) (hmiss _ _)
    · exact .of_eq rfl

theorem deliver_lanesMove (fires : Prop) (l : LaneNo) (k : PocketNo) (p : Part) (s : State) :
    LanesMove fires s (deliver l k p s) := lanesMove_modLane (deliver_lanes l k p s) {}

theorem dropEdge_lanesMove (fires : Prop) (l : LaneNo) (s : State) : LanesMove fires s (dropEdge l s) := by
  have hconfirm (k : PocketNo) (t : State) : LanesMove fires t (confirmRecord l k t) := by
    unfold confirmRecord
    split
    · split
      · split
        · exact deliver_lanesMove _ l k _ t
        · exact .of_eq rfl
      · exact .of_eq rfl
    · exact .of_eq rfl
  unfold dropEdge
  split
  · exact .of_eq (by simp)
  · exact LanesMove.trans (lanesMove_modLane rfl {}) (hconfirm _ _)

theorem classify_lanesMove (fires : Prop) (k : PocketNo) (s : State) : LanesMove fires s (classify k s) := by
  obtain he | ⟨p, v, -, -, ⟨why, he⟩ | ⟨c, -, he⟩⟩ := classify_cases k s <;> rw [he]
  · exact .of_eq rfl
  · exact .of_eq (by simp [classCounted_lanes])
  · exact lanesMove_modLane (l := c.lane) (g := reserveOn) (by simp [reserve_lanes, modLane, classCounted_lanes]) {}

theorem departure_lanesMove (fires : Prop) (s : State) : LanesMove fires s (departure s) := by
  unfold departure departRecord
  split
  · exact .of_eq rfl
  · split
    · exact .of_eq (by simp)
    · next v c _ => exact lanesMove_modLane (l := c.lane) (g := releaseOn) (by simp [modLane]) {}
    · next v c _ =>
      exact lanesMove_modLane (l := c.lane) (g := fun L => releaseOn (dropEntry (pocketAt s s.geo.dumpOffset) L))
        (by simp [modLane]) {}
    · exact .of_eq (by simp)

theorem purgeOne_lanesMove (fires : Prop) (b : Bool) (k : PocketNo) (s : State) :
    LanesMove fires s (purgeOne b k s) := by
  have hrelease (p : Part) : LanesMove fires s (purgeRelease k p s) := by
    unfold purgeRelease
    split
    · exact .of_eq (by simp)
    · exact lanesMove_modLane rfl {}
    · exact lanesMove_modLane rfl {}
    · exact .of_eq rfl
  unfold purgeOne
  split
  · exact .of_eq rfl
  · next p _ => exact (hrelease p).trans (.of_eq (by cases b <;> simp))

theorem firePhase_lanesMove (e : Option Travel) (l : LaneNo) (s : State) :
    LanesMove (s.mask.masked = false) s (firePhase e l s) := by
  have hfire (hm : s.mask.masked = false) (L M : Lane) (hM : LaneMoves (s.mask.masked = false) L M) :
      LaneMoves (s.mask.masked = false) L (fireOutput e s.trk.travel M) := by
    obtain ⟨ha, hc, -, -, hs, -⟩ := fireOutput_keeps e s.trk.travel M
    exact ⟨ha.trans hM.attr, hc.trans hM.capacity, hs.trans hM.setup, fun _ => .inr hm⟩
  obtain he | ⟨k, p, v, c, -, -, -, -, rfl, hm, -, he | he⟩ := firePhase_cases e l s <;> rw [he]
  · exact .of_eq rfl
  · exact lanesMove_modLane (l := c.lane) (g := fun L => fireOutput e s.trk.travel (deliverOn L))
      (by simp [modLane, deliver_lanes]) (hfire hm _ _ {})
  · exact LanesMove.trans (.of_eq (by simp)) (lanesMove_modLane rfl (hfire hm _ _ {}))

theorem passCheck_lanesMove (fires : Prop) (l : LaneNo) (s : State) : LanesMove fires s (passCheck l s) := by
  obtain he | ⟨k, p, v, c, -, -, -, he⟩ := passCheck_cases l s <;> rw [he]
  · exact .of_eq rfl
  · exact lanesMove_modLane (l := l) (g := releaseOn) (by simp [modLane]) {}

/-- The mask's entry makes every lane inactive or leaves its output alone. -/
theorem maskEntryOn_moves (fires : Prop) (f : Travel) (L : Lane) : LaneMoves fires L (maskEntryOn f L) := by
  unfold maskEntryOn
  split
  · exact { active := fun h => by simp [isActive] at h }
  · split
    · exact { active := fun h => by simp [isActive] at h }
    · exact .refl ..

theorem maskExitOn_moves (fires : Prop) (f : Travel) (L : Lane) : LaneMoves fires L (maskExitOn f L) := by
  unfold maskExitOn
  split
  · exact { active := fun h => by simp [isActive] at h }
  · exact .refl ..

theorem lanesMove_mapLanes {fires : Prop} {g : Lane → Lane} {s t : State} (ht : t.lanes = (mapLanes g s).lanes)
    (h : ∀ L, LaneMoves fires L (g L)) : LanesMove fires s t := fun l => by
  rw [ht]
  simpa [mapLanes] using h s.lanes[l]

theorem enterMask_lanesMove (fires : Prop) (s : State) : LanesMove fires s (enterMask s) := by
  unfold enterMask
  dsimp only
  split
  · exact lanesMove_mapLanes (g := maskEntryOn s.trk.travel) (by simp [mapLanes]) (maskEntryOn_moves fires _)
  · exact .of_eq (by simp)

theorem addReason_lanesMove (fires : Prop) (a b c : Bool) (s : State) : LanesMove fires s (addReason a b c s) := by
  unfold addReason
  split
  · exact .of_eq rfl
  · exact (enterMask_lanesMove fires (s.setMask { s.mask with slip := a, reverse := b, forced := c, clean := 0 }) :)

theorem exitMask_lanesMove (fires : Prop) (s : State) : LanesMove fires s (exitMask s) := by
  unfold exitMask
  dsimp only
  split
  · exact lanesMove_mapLanes (g := maskExitOn s.trk.travel) (by simp [mapLanes]) (maskExitOn_moves fires _)
  · exact .of_eq (by simp)

theorem home_lanesMove (fires : Prop) (s : State) : LanesMove fires s (home s) := by
  unfold home
  dsimp only
  split
  · exact lanesMove_mapLanes (g := maskEntryOn 0) (by simp [mapLanes]) (maskEntryOn_moves fires _)
  · exact .of_eq (by simp)

/-- No act but a fire in TRACKING with the mask LIVE makes a lane's output active, and none changes its setup. -/
theorem TurretAct.lanesMove {s t : State} (h : TurretAct s t) :
    LanesMove (s.trk.st = .tracking ∧ s.mask.masked = false) s t := by
  cases h with
  | station | slot | track | clean => exact .of_eq (by simp)
  | classify k => exact classify_lanesMove _ k s
  | rest l r => exact lanesMove_inactive rfl
  | windowEnd l => exact takeWindowEnd_lanesMove _ l s
  | drop l => exact dropEdge_lanesMove _ l s
  | passCheck l => exact passCheck_lanesMove _ l s
  | departure => exact departure_lanesMove _ s
  | fire e l _ ht =>
    exact fun j =>
      have hj := firePhase_lanesMove e l s j
      { hj with active := fun ha => (hj.active ha).imp_right fun hm => ⟨ht, hm⟩ }
  | purgeOne b k => exact purgeOne_lanesMove _ b k s
  | addReason a b c => exact addReason_lanesMove _ a b c s
  | exitMask => exact exitMask_lanesMove _ s
  | home => exact home_lanesMove _ s

/-! ## The mask -/

/-- What a drop leaves alone, beside what a delivery does. -/
@[simp] theorem dropEdge_keeps (l : LaneNo) (s : State) :
    (dropEdge l s).geo = s.geo ∧ (dropEdge l s).trk = s.trk ∧ (dropEdge l s).stations = s.stations ∧
      (dropEdge l s).banks = s.banks ∧ (dropEdge l s).mask = s.mask := by
  unfold dropEdge confirmRecord
  repeat' split
  all_goals simp

/-- Every act but a motion fault, an exit, a clean revolution and homing keeps the mask and the tracker's state. -/
theorem TurretAct.mask_cases {s t : State} (h : TurretAct s t) :
    (t.mask = s.mask ∧ t.trk.st = s.trk.st) ∨ (∃ a b c, (a || b || c) = true ∧ t = Machine.addReason a b c s) ∨
      t = Machine.exitMask s ∨ (∃ n, n ≤ 15 ∧ s.mask.masked = true ∧ t = s.setMask { s.mask with clean := n }) ∨
      (s.trk.st = .homing ∧ t = Machine.home s) := by
  cases h with
  | station | slot | classify | rest | windowEnd | drop | passCheck | departure | fire | purgeOne =>
    exact .inl ⟨by simp, by simp⟩
  | track v _ hst => exact .inl ⟨rfl, hst⟩
  | addReason a b c _ h => exact .inr (.inl ⟨a, b, c, h, rfl⟩)
  | exitMask => exact .inr (.inr (.inl rfl))
  | clean n _ hm hn => exact .inr (.inr (.inr (.inl ⟨n, hn, hm, rfl⟩)))
  | home _ h => exact .inr (.inr (.inr (.inr ⟨h, rfl⟩)))

/-- The mask after its entry. -/
@[simp] theorem enterMask_mask (s : State) : (enterMask s).mask = { s.mask with masked := true } := by
  unfold enterMask
  dsimp only
  split <;> simp

@[simp] theorem exitMask_mask (s : State) : (exitMask s).mask = liveMask s.mask := by
  unfold exitMask
  dsimp only
  split <;> simp

/-- The mask after a reason has joined it. -/
theorem addReason_mask (a b c : Bool) (s : State) :
    (addReason a b c s).mask =
      if s.mask.masked then { s.mask with slip := s.mask.slip || a, reverse := s.mask.reverse || b,
                                          forced := s.mask.forced || c, clean := 0 }
      else { s.mask with masked := true, slip := a, reverse := b, forced := c, clean := 0 } := by
  unfold addReason
  split <;> simp

/-- In TRACKING the mask's entry cuts every run. -/
theorem enterMask_inactive (s : State) (ht : s.trk.st = .tracking) (l : LaneNo) :
    isActive (enterMask s).lanes[l] = false := by
  have hcut (f : Travel) (L : Lane) : isActive (maskEntryOn f L) = false := by
    unfold maskEntryOn
    split
    · rfl
    · split
      · rfl
      · next h => simp [isActive, h]
  have htrack : isTracking (s.setMask { s.mask with masked := true }) = true := by simp [isTracking, ht]
  simpa [enterMask, htrack, mapLanes] using hcut _ _

/-- The mask's own consistency and its hold on the runs. -/
def MaskSound (s : State) : Prop := MaskConsistent s ∧ RunsOnlyWhileLive s

theorem addReason_consistent {a b c : Bool} {s : State} (h : (a || b || c) = true) (hs : MaskConsistent s) :
    MaskConsistent (addReason a b c s) := by
  obtain ⟨hreasons, -, -, hn⟩ := hs
  unfold MaskConsistent
  rw [addReason_mask]
  split
  · next hm =>
    rw [hm] at hreasons
    refine ⟨?_, fun h => by simp [hm] at h, Nat.zero_le _, hn⟩
    simp only [hm]
    revert hreasons
    cases s.mask.slip <;> cases s.mask.reverse <;> cases s.mask.forced <;> simp
  · exact ⟨h.symm, by simp, Nat.zero_le _, hn⟩

theorem TurretAct.maskSound {s t : State} (h : TurretAct s t) (hs : MaskSound s) : MaskSound t := by
  obtain ⟨hmask, hruns⟩ := hs
  have hactive (l : LaneNo) (ha : isActive t.lanes[l] = true) : s.trk.st = .tracking ∧ s.mask.masked = false :=
    ((h.lanesMove l).active ha).elim (hruns l) id
  obtain ⟨hm, hst⟩ | ⟨a, b, c, habc, rfl⟩ | rfl | ⟨n, hn, hm, rfl⟩ | ⟨hst, rfl⟩ := h.mask_cases
  · exact ⟨by unfold MaskConsistent; rw [hm]; exact hmask, fun l ha => by rw [hm, hst]; exact hactive l ha⟩
  · refine ⟨addReason_consistent habc hmask, fun l ha => ?_⟩
    obtain ⟨ht, hlive⟩ := hactive l ha
    rw [Machine.addReason, if_neg (by simp [hlive]), enterMask_inactive _ (by exact ht)] at ha
    cases ha
  · obtain ⟨-, -, -, hn⟩ := hmask
    refine ⟨?_, fun l ha => ?_⟩
    · unfold MaskConsistent
      rw [exitMask_mask]
      exact ⟨rfl, fun _ => rfl, Nat.zero_le _, hn⟩
    · rw [exitMask_mask, (exitMask_keeps s).2.1]
      exact ⟨(hactive l ha).1, rfl⟩
  · obtain ⟨hreasons, -, -, h1⟩ := hmask
    exact ⟨⟨hreasons, fun h => absurd (hm.symm.trans h) (by simp), hn, h1⟩, hruns⟩
  · obtain ⟨-, -, -, -, -, hm, -⟩ := home_keeps s
    refine ⟨by unfold MaskConsistent; rw [hm]; exact hmask, fun l ha => ?_⟩
    rw [(hactive l ha).1] at hst
    cases hst

theorem maskSound_of_same {s t : State} (hm : t.mask = s.mask) (hst : t.trk.st = s.trk.st)
    (hl : ∀ l : LaneNo, t.lanes[l].output = s.lanes[l].output) (hs : MaskSound s) : MaskSound t := by
  obtain ⟨hmask, hruns⟩ := hs
  refine ⟨by unfold MaskConsistent; rw [hm]; exact hmask, fun l ha => ?_⟩
  rw [hm, hst]
  exact hruns l (by rw [← ha, isActive, isActive, hl])

/-- After the announcement of IDLE the mask is LIVE and no lane is active. -/
theorem idled_maskSound {s : State} (hn : 1 ≤ s.mask.n ∧ s.mask.n ≤ 15) : MaskSound (idled s) :=
  ⟨⟨rfl, fun _ => rfl, Nat.zero_le _, hn⟩, fun l ha => by simp [idled, mapLanes, idleOn, isActive] at ha⟩

theorem loadSample_lanes (s : State) : (loadSample s).lanes = s.lanes := by
  obtain he | ⟨-, he⟩ := loadSample_cases s <;> rw [he]
  simp [loadTaken]

theorem maskSound_turretInvariant : TurretInvariant MaskSound where
  body h hs := maskSound_of_same h.mask (by rw [h.trk]) (fun l => by rw [h.lanes]) hs
  turret h hs := h.maskSound hs
  load s hs := maskSound_of_same (by simp) (by simp) (fun l => by rw [loadSample_lanes]) hs
  setting {s t} h hs := by
    cases h with
    | laneState o =>
      obtain ⟨-, -, -, -, htrk, -, hm⟩ := applyLaneOrder_keeps o s
      refine maskSound_of_same hm (by rw [htrk]) (fun l => ?_) hs
      rw [applyLaneOrder_lanes]
      by_cases h : l = o.lane
      · subst h; rw [modLane_self]; rfl
      · rw [modLane_other h]
    | laneSetup l | laneEmpty l =>
      refine maskSound_of_same (by simp) (by simp) (fun j => ?_) hs
      by_cases h : j = l
      · subst h; rw [modLane_self]
      · rw [modLane_other h]
    | mode auto n _ h1 h15 =>
      obtain ⟨⟨hreasons, hclean, hle, -⟩, hruns⟩ := hs
      exact ⟨⟨hreasons, hclean, hle, h1, h15⟩, hruns⟩
    | start _ hi =>
      refine ⟨hs.1, fun l ha => ?_⟩
      obtain ⟨ht, -⟩ := hs.2 l ha
      rw [hi] at ht
      cases ht
    | stop =>
      obtain ⟨-, -, -, hn⟩ := hs.1
      exact idled_maskSound (by simpa using hn)
    | write => exact maskSound_of_same (by simp [writeStaging]) (by simp [writeStaging]) (by simp [writeStaging]) hs
    | swap => exact maskSound_of_same (by simp [swapBanks]) (by simp [swapBanks]) (by simp [swapBanks]) hs
    | geometry | station | tallyClear | format | lock | pause => exact maskSound_of_same (by simp) (by simp) (by simp) hs
  idle b s hs := by
    obtain ⟨-, -, -, hn⟩ := hs.1
    exact idled_maskSound (by simpa using hn)
  idleStations v s _ hs := hs
  fullReset a b m s :=
    ⟨⟨rfl, fun _ => rfl, (by decide : 0 ≤ 15), (by decide : 1 ≤ 3), (by decide : 3 ≤ 15)⟩,
      fun l ha => by simp [fullReset, State.atRelease, Lane.reset, isActive] at ha⟩

/-- Settles O51: only a fire in TRACKING with the mask LIVE opens a run, and what ends either cuts every run. -/
theorem maskStaysConsistent : Obligations.MaskStaysConsistent := by
  unfold Obligations.MaskStaysConsistent
  exact fun s t hm hr h => maskSound_turretInvariant.stepInvariant.step (P := MaskSound) ⟨hm, hr⟩ h

end Sys2Proof.Machine
end

section
/-!
PROOF. The purge frees every record; positions, records and relations kept by every step (O52, O53).
-/

namespace Sys2Proof.Machine

/-! ## The purge -/

/-- The purge comes to every pocket: those on the turret by their offset, and the others at the end. -/
theorem mem_purgeOrder (g : Geometry) (load : Nat) (k : PocketNo) : k ∈ purgeOrder g load := by
  unfold purgeOrder
  rw [List.mem_append]
  by_cases hk : g.pn ≤ k.val
  · exact .inr (by simpa using hk)
  · have hlt : k.val < g.pn := Nat.lt_of_not_le hk
    refine .inl (List.mem_map.mpr ⟨(load + (g.pn - k.val)) % g.pn, ?_, ?_⟩)
    · simpa using Nat.mod_lt _ (by omega)
    · have hmod : (load + g.pn - (load + (g.pn - k.val)) % g.pn) % g.pn = k.val := by
        have hdiv := Nat.div_add_mod (load + (g.pn - k.val)) g.pn
        have hle : (load + (g.pn - k.val)) % g.pn < g.pn := Nat.mod_lt _ (by omega)
        have hsum : load + g.pn - (load + (g.pn - k.val)) % g.pn =
            k.val + g.pn * ((load + (g.pn - k.val)) / g.pn) := by omega
        rw [hsum, Nat.add_mul_mod_self_left, Nat.mod_eq_of_lt hlt]
      rw [pocketFrom, hmod]
      exact Fin.ext (Nat.mod_eq_of_lt k.isLt)

theorem set_none_of_none {k : PocketNo} {s : State} (h : s.ring[k] = none) : s.ring.set k none = s.ring := by
  rw [← h]
  simp

theorem purgeOne_ring (b : Bool) (k : PocketNo) (s : State) : (purgeOne b k s).ring = s.ring.set k none := by
  unfold purgeOne
  split
  · next h => exact (set_none_of_none h).symm
  · cases b <;> simp [setRecord]

/-- A record taken by a purge, or FREE before it, is FREE after it. -/
theorem purgeFold_at (b : Bool) (k : PocketNo) (xs : List PocketNo) (s : State) :
    (xs.foldl (fun t j => purgeOne b j t) s).ring[k] = if k ∈ xs then none else s.ring[k] := by
  induction xs generalizing s with
  | nil => rfl
  | cons j xs ih =>
    have hj := setRecord_at j k none s
    rw [List.foldl_cons, ih, purgeOne_ring]
    by_cases hin : k ∈ xs
    · simp [hin]
    · by_cases he : k = j
      · subst he; simp
      · simp only [List.mem_cons, he, hin, or_self, if_false]
        simpa [setRecord, he] using hj

theorem purge_at (load : Nat) (b : Bool) (s : State) (k : PocketNo) : (purge load b s).ring[k] = none :=
  (purgeFold_at b k _ s).trans (if_pos (mem_purgeOrder s.geo load k))

/-- A turret with no record counts none. -/
theorem recordsWith_empty {s : State} (h : ∀ k : PocketNo, s.ring[k] = none) (test : Part → Bool) :
    recordsWith test s = 0 := by
  rw [recordsWith_eq, Vector.countP_eq_zero]
  intro r hr
  obtain ⟨i, hi, rfl⟩ := Vector.mem_iff_getElem.mp hr
  have : s.ring[i] = none := h ⟨i, hi⟩
  simp [this]

/-- What each replaced record keeps is kept by a purge. -/
theorem purge_induct {P : State → Prop} (h : ∀ {k r s t}, Replaced k r s t → P s → P t) (load : Nat) (b : Bool) (s : State)
    (hs : P s) : P (purge load b s) := by
  have hfold (xs : List PocketNo) (t : State) (ht : P t) : P (xs.foldl (fun u k => purgeOne b k u) t) := by
    induction xs generalizing t with
    | nil => exact ht
    | cons k xs ih =>
      obtain ⟨r, hr, -⟩ := purgeOne_replaced b k t
      exact ih _ (h hr ht)
  exact hfold _ s hs

theorem purge_inUse {s : State} (hs : InUseMatches s) (load : Nat) (b : Bool) (id : BankId) :
    (bankAt (purge load b s).banks id).inUse = 0 := by
  rw [(inUseMatches_iff _).mp (purge_induct Replaced.inUseMatches load b s hs)]
  exact recordsWith_empty (purge_at load b s) _

theorem purge_reserved {s : State} (hs : ReservedMatches s) (load : Nat) (b : Bool) (l : LaneNo) :
    (purge load b s).lanes[l].reserved = 0 := by
  rw [purge_induct Replaced.reservedMatches load b s hs l]
  exact recordsWith_empty (purge_at load b s) _

theorem purge_queue {s : State} (hs : ConfirmQueuesMatch s) (load : Nat) (b : Bool) (l : LaneNo) :
    (purge load b s).lanes[l].queue = [] := by
  obtain ⟨-, hmem⟩ := purge_induct Replaced.confirmQueuesMatch load b s hs l
  refine (List.map_eq_nil_iff (f := (·.pocket))).mp (List.eq_nil_iff_forall_not_mem.mpr fun k hk => ?_)
  have hfired := (hmem k).mp hk
  rw [purge_at] at hfired
  cases hfired

theorem announceIdle_at (b : Bool) (s : State) (k : PocketNo) : (announceIdle b s).ring[k] = none := by
  have hring : (announceIdle b s).ring = (purge (loadPocket s) b (s.setTrk { s.trk with st := .idle })).ring := by
    simp [announceIdle]
  rw [hring]
  exact purge_at ..

/-! ## Positions and records -/

/-- The position ranges together with the places of the records. -/
def Placed (s : State) : Prop := PositionInRange s ∧ RecordsInPlace s

theorem pocketFrom_val {g : Geometry} (h0 : 0 < g.pn) (h : g.pn ≤ 128) (load e : Nat) :
    (pocketFrom g load e).val = (load + g.pn - e) % g.pn := by
  have : (load + g.pn - e) % g.pn < g.pn := Nat.mod_lt _ h0
  exact Nat.mod_eq_of_lt (by omega)

theorem positionInRange_of_same {s t : State} (hg : t.geo = s.geo) (ht : t.trk = s.trk) (hs : PositionInRange s) :
    PositionInRange t := by
  unfold PositionInRange
  rw [hg, ht]
  exact hs

theorem recordsInPlace_of_same {s t : State} (hg : t.geo = s.geo) (ht : t.trk = s.trk)
    (hr : ∀ k : PocketNo, s.ring[k] = none → t.ring[k] = none) (hs : RecordsInPlace s) : RecordsInPlace t := by
  unfold RecordsInPlace
  rw [hg, ht]
  exact ⟨fun hst k => hr k (hs.1 hst k), fun k hk => hr k (hs.2 k hk)⟩

theorem placed_of_same {s t : State} (hg : t.geo = s.geo) (ht : t.trk = s.trk)
    (hr : ∀ k : PocketNo, s.ring[k] = none → t.ring[k] = none) (hs : Placed s) : Placed t :=
  ⟨positionInRange_of_same hg ht hs.1, recordsInPlace_of_same hg ht hr hs.2⟩

/-- No act takes up a FREE record. -/
theorem TurretAct.free {s t : State} (h : TurretAct s t) (k : PocketNo) (hk : s.ring[k] = none) : t.ring[k] = none := by
  obtain ⟨j, r, hr, hfollows⟩ := h.replaced
  rw [hr.at]
  split
  · next he => subst he; exact hfollows.1 hk
  · exact hk

/-- The tracker's values and the geometry move by `track` and `home` alone. -/
theorem TurretAct.trk_cases {s t : State} (h : TurretAct s t) :
    t.geo = s.geo ∧ (t.trk = s.trk ∨
      (t.trk.st = s.trk.st ∧ t = s.setTrk t.trk ∧ (PositionInRange s → PositionInRange t)) ∨
      (s.trk.st = .homing ∧ t = Machine.home s)) := by
  cases h with
  | track v _ hst hpos => exact ⟨rfl, .inr (.inl ⟨hst, rfl, hpos⟩)⟩
  | home _ h => exact ⟨(home_keeps s).2.2.2.1, .inr (.inr ⟨h, rfl⟩)⟩
  | station | slot | classify | rest | windowEnd | drop | passCheck | departure | fire | purgeOne | addReason | exitMask
  | clean => exact ⟨by simp, .inl (by simp)⟩

theorem home_trk (s : State) : (home s).trk = { s.trk with
    st := .tracking, pos := s.geo.indexOffset, lag := 0, travel := 0, indexRef := 0, armed := true } := by
  unfold home
  dsimp only
  split <;> simp

theorem TurretAct.placed {s t : State} (h : TurretAct s t) (hs : Placed s) : Placed t := by
  obtain ⟨hgeo, htrk | ⟨hst, -, hpos⟩ | ⟨hst, rfl⟩⟩ := h.trk_cases
  · exact placed_of_same hgeo htrk h.free hs
  · refine ⟨hpos hs.1, fun ht k => h.free k (hs.2.1 (hst ▸ ht) k), fun k hk => h.free k (hs.2.2 k (hgeo ▸ hk))⟩
  · obtain ⟨⟨hpn, hc, hoff, -⟩, hidle, -⟩ := hs
    have hempty (k : PocketNo) : (Machine.home s).ring[k] = none := h.free k (hidle (by simp [hst]) k)
    refine ⟨?_, fun _ => hempty, fun k _ => hempty k⟩
    unfold PositionInRange
    rw [hgeo, home_trk]
    exact ⟨hpn, hc, hoff, hoff, fun _ => show 0 < s.geo.c by omega⟩

theorem placed_turretInvariant : TurretInvariant Placed where
  body h hs := placed_of_same h.geo h.trk (fun k hk => by rw [h.ring]; exact hk) hs
  turret h hs := h.placed hs
  load s hs := by
    refine ⟨positionInRange_of_same (by simp) (by simp) hs.1, ?_⟩
    obtain he | ⟨⟨-, hload, -, hk⟩, he⟩ := loadSample_cases s <;> rw [he]
    · exact hs.2
    · obtain ⟨⟨⟨h8, h128⟩, -⟩, -, hbeyond⟩ := hs
      have hat := (loadTaken_replaced hk).at
      refine ⟨fun hst => ?_, fun k hpn => ?_⟩
      · obtain ⟨⟨ht, -⟩, -⟩ : (s.trk.st = .tracking ∧ s.mask.masked = false) ∧ s.loadPause = false := by
          simpa [loaden, isTracking] using hload
        exact absurd (by simpa [loadTaken] using ht) hst
      · have hpn' : s.geo.pn ≤ k.val := by simpa [loadTaken] using hpn
        rw [hat, if_neg, hbeyond k hpn']
        rintro rfl
        rw [pocketAt, pocketFrom_val (by omega) h128] at hpn'
        exact absurd (Nat.mod_lt _ (by omega)) (Nat.not_lt.mpr hpn')
  setting {s t} h hs := by
    cases h with
    | geometry f g _ _ hi hg =>
      obtain ⟨mode, ⟨hpn, hc, hoff, -⟩, rfl⟩ := (geometryFields_eq_some f g).mp hg
      obtain ⟨-, hidle, -⟩ := hs
      have hempty := hidle (by simp [hi])
      exact ⟨⟨hpn, hc, hoff, Nat.lt_of_lt_of_le (by decide : 0 < 512) hc.1, fun ht => by simp [hi] at ht⟩, fun _ => hempty,
        fun k _ => hempty k⟩
    | laneState o =>
      obtain ⟨hring, -, -, hgeo, htrk, -⟩ := applyLaneOrder_keeps o s
      exact placed_of_same hgeo htrk (fun k hk => by rw [hring]; exact hk) hs
    | start _ hi =>
      obtain ⟨⟨hpn, hc, hoff, hpos, -⟩, hidle, -⟩ := hs
      have hempty := hidle (by simp [hi])
      exact ⟨⟨hpn, hc, hoff, hpos, fun ht => by simp at ht⟩, fun _ => hempty, fun k _ => hempty k⟩
    | stop =>
      obtain ⟨⟨hpn, hc, hoff, hpos, -⟩, -⟩ := hs
      refine ⟨?_, fun _ => announceIdle_at true s, fun k _ => announceIdle_at true s k⟩
      simpa [PositionInRange, announceIdle] using ⟨hpn, hc, hoff, hpos⟩
    | write => exact placed_of_same (by simp [writeStaging]) (by simp [writeStaging]) (by simp [writeStaging]) hs
    | swap => exact placed_of_same (by simp [swapBanks]) (by simp [swapBanks]) (by simp [swapBanks]) hs
    | station | laneSetup | laneEmpty | mode | tallyClear | format | lock | pause =>
      exact placed_of_same (by simp) (by simp) (by simp) hs
  idle b s hs := by
    obtain ⟨⟨hpn, hc, hoff, hpos, -⟩, -⟩ := hs
    refine ⟨?_, fun _ => announceIdle_at b s, fun k _ => announceIdle_at b s k⟩
    simpa [PositionInRange, announceIdle] using ⟨hpn, hc, hoff, hpos⟩
  idleStations v s _ hs := hs
  fullReset a b m s := by
    have hempty (k : PocketNo) : (fullReset a b m s).ring[k] = none := by simp [fullReset, State.atRelease]
    refine ⟨?_, fun _ => hempty, fun k _ => hempty k⟩
    simp [PositionInRange, fullReset, State.atRelease, Geometry.reset, Tracker.reset]

/-- Settles O52. -/
theorem positionAndRecordsStayInRange : Obligations.PositionAndRecordsStayInRange := by
  unfold Obligations.PositionAndRecordsStayInRange
  exact fun s t hp hr h => placed_turretInvariant.stepInvariant.step (P := Placed) ⟨hp, hr⟩ h

end Sys2Proof.Machine
end

section
/-!
PROOF. The checks of START, and the relations they leave holding outside IDLE (O53).
-/

namespace Sys2Proof.Machine

/-! ## The fourteen checks -/

/-- What a failed check reports beside its number: the first station or lane that failed it, for checks 9 to 13. -/
def CheckDetail (s : State) (n u : Nat) : Prop :=
  (n < 9 ∨ n = 14 → u = 0) ∧
    (9 ≤ n → n ≤ 11 → ∃ m : StationNo, u = m.val ∧ measures s.stations[m] ∧ ¬ StationRelation s m n ∧
      ∀ j : StationNo, j < m → measures s.stations[j] → StationRelation s j n) ∧
    (12 ≤ n → n ≤ 13 → ∃ l : LaneNo, u = l.val ∧ ¬ LaneRelation s l n ∧ ∀ j : LaneNo, j < l → LaneRelation s j n)

/-- A check answers for its relation: nothing where it holds, and the number with its detail where it fails. -/
structure Answers (s : State) (n : Nat) (c : Option (Nat × Nat)) : Prop where
  good : StartRelation s n → c = none
  bad : ¬ StartRelation s n → ∃ u, c = some (n, u) ∧ CheckDetail s n u

theorem answers_checkThat {s : State} {n : Nat} {good : Bool} (hn : n < 9 ∨ n = 14) (h : StartRelation s n ↔ good = true) :
    Answers s n (checkThat n good) where
  good hr := if_pos (h.mp hr)
  bad hr := ⟨0, if_neg (fun hg => hr (h.mpr hg)), fun _ => rfl, by omega, by omega⟩

/-- In a sorted list the element found is the first that the test holds for. -/
theorem first_of_find {α : Type} [LinearOrder α] {xs : List α} {p : α → Bool} {a : α} (hxs : xs.Pairwise (· < ·))
    (h : xs.find? p = some a) : p a = true ∧ ∀ b ∈ xs, b < a → p b = false := by
  obtain ⟨ha, as, bs, rfl, has⟩ := List.find?_eq_some_iff_append.mp h
  refine ⟨ha, fun b hb hlt => ?_⟩
  obtain hb | hb := List.mem_append.mp hb
  · simpa using has b hb
  · obtain rfl | hb := List.mem_cons.mp hb
    · exact absurd hlt (lt_irrefl _)
    · have := (List.pairwise_cons.mp (List.pairwise_append.mp hxs).2.1).1 b hb
      exact absurd hlt (lt_asymm this)

theorem mem_allStations (m : StationNo) : m ∈ allStations := by decide +revert

theorem mem_allLanes (l : LaneNo) : l ∈ allLanes := by decide +revert

theorem answers_station {s : State} {n : Nat} {bad : Station → Bool} (h9 : 9 ≤ n) (h11 : n ≤ 11)
    (hn : StartRelation s n ↔ ∀ m : StationNo, measures s.stations[m] → StationRelation s m n)
    (h : ∀ m : StationNo, bad s.stations[m] = false ↔ StationRelation s m n) :
    Answers s n (checkEach n (failingStation s bad)) := by
  have htest (m : StationNo) : (s.stations[m].role != .none && bad s.stations[m]) = false ↔
      (measures s.stations[m] → StationRelation s m n) := by
    rw [← h]
    simp only [measures, Bool.and_eq_false_imp, bne_iff_ne]
  unfold checkEach failingStation
  cases hfind : allStations.find? fun m => s.stations[m].role != .none && bad s.stations[m] with
  | none =>
    have hall : StartRelation s n := hn.mpr fun m =>
      (htest m).mp (by simpa using List.find?_eq_none.mp hfind m (mem_allStations m))
    exact ⟨fun _ => rfl, fun hbad => absurd hall hbad⟩
  | some m =>
    obtain ⟨hm, hfirst⟩ := first_of_find (by decide) hfind
    have hfails : ¬ (measures s.stations[m] → StationRelation s m n) := fun hr => by
      rw [(htest m).mpr hr] at hm
      cases hm
    obtain ⟨hmeasures, hrel⟩ := Classical.not_imp.mp hfails
    refine ⟨fun hr => absurd (hn.mp hr m) hfails, fun _ => ⟨m.val, rfl, by omega, fun _ _ => ?_, by omega⟩⟩
    exact ⟨m, rfl, hmeasures, hrel, fun j hj => (htest j).mp (hfirst j (mem_allStations j) hj)⟩

theorem answers_lane {s : State} {n : Nat} {bad : Lane → Bool} (h12 : 12 ≤ n) (h13 : n ≤ 13)
    (hn : StartRelation s n ↔ ∀ l : LaneNo, LaneRelation s l n)
    (h : ∀ l : LaneNo, bad s.lanes[l] = false ↔ LaneRelation s l n) :
    Answers s n (checkEach n (failingLane s bad)) := by
  unfold checkEach failingLane
  cases hfind : allLanes.find? fun l => bad s.lanes[l] with
  | none =>
    have hall : StartRelation s n := hn.mpr fun l =>
      (h l).mp (by simpa using List.find?_eq_none.mp hfind l (mem_allLanes l))
    exact ⟨fun _ => rfl, fun hbad => absurd hall hbad⟩
  | some l =>
    obtain ⟨hl, hfirst⟩ := first_of_find (by decide) hfind
    have hfails : ¬ LaneRelation s l n := fun hr => by
      rw [(h l).mpr hr] at hl
      cases hl
    refine ⟨fun hr => absurd (hn.mp hr l) hfails, fun _ => ⟨l.val, rfl, by omega, by omega, fun _ _ => ?_⟩⟩
    exact ⟨l, rfl, hfails, fun j hj => (h j).mp (hfirst j (mem_allLanes j) hj)⟩

/-- The meeting of a station's deadline with a lane, as relation 11 says it. -/
theorem meetsLane_eq_false (s : State) (m : StationNo) :
    meetsLane s s.stations[m] = false ↔ StationRelation s m 11 := by
  unfold meetsLane StationRelation
  rw [List.any_eq_false]
  constructor
  · intro h l hattr
    have hnot := h l (mem_allLanes l)
    rw [Bool.and_eq_true, not_and, decide_eq_true_eq, Nat.not_le] at hnot
    exact hnot (by simpa using hattr)
  · intro h l _ hbad
    obtain ⟨hattr, hle⟩ := (Bool.and_eq_true _ _).mp hbad
    have hlt := h l (by simpa using hattr)
    have := of_decide_eq_true hle
    omega

/-- The list of the checks answers for the fourteen relations in their order. -/
theorem startChecks_answers (s : State) : List.Forall₂ (Answers s) (List.range' 1 14) (startChecks s) := by
  have hgeometry (n : Nat) (good : Bool) (hn : n < 9 ∨ n = 14) (h : StartRelation s n ↔ good = true) := answers_checkThat hn h
  refine .cons (hgeometry 1 _ (by decide) ?_) <| .cons (hgeometry 2 _ (by decide) ?_) <|
    .cons (hgeometry 3 _ (by decide) ?_) <| .cons (hgeometry 4 _ (by decide) ?_) <|
    .cons (hgeometry 5 _ (by decide) ?_) <| .cons (hgeometry 6 _ (by decide) ?_) <|
    .cons (hgeometry 7 _ (by decide) ?_) <| .cons (hgeometry 8 _ (by decide) ?_) <|
    .cons (answers_station (by decide) (by decide) Iff.rfl fun m => ?_) <|
    .cons (answers_station (by decide) (by decide) Iff.rfl fun m => ?_) <|
    .cons (answers_station (by decide) (by decide) Iff.rfl fun m => meetsLane_eq_false s m) <|
    .cons (answers_lane (by decide) (by decide) Iff.rfl fun l => ?_) <|
    .cons (answers_lane (by decide) (by decide) Iff.rfl fun l => ?_) <|
    .cons (hgeometry 14 _ (by decide) ?_) .nil
  · simp [StartRelation, Nat.dvd_iff_mod_eq_zero]
  · simp [StartRelation]
  · simp [StartRelation]
  · simp [StartRelation]
  · simp [StartRelation]
  · simp [StartRelation]
  · simp [StartRelation]
  · simp only [StartRelation, List.any_eq_true, beq_iff_eq]
    exact ⟨fun ⟨m, hm⟩ => ⟨m, mem_allStations m, hm⟩, fun ⟨m, _, hm⟩ => ⟨m, hm⟩⟩
  · simp [StationRelation]
  · simp [StationRelation]
  · simp [LaneRelation]
  · simp [LaneRelation, and_assoc]
  · simp [StartRelation]

/-- The first of a list of checks that fails. -/
theorem findSome_answers {s : State} {ns : List Nat} {cs : List (Option (Nat × Nat))} (h : List.Forall₂ (Answers s) ns cs)
    (hns : ns.Pairwise (· < ·)) :
    (cs.findSome? id = none ↔ ∀ n ∈ ns, StartRelation s n) ∧
      ∀ n ∈ ns, (∀ j ∈ ns, j < n → StartRelation s j) → ¬ StartRelation s n →
        ∃ u, cs.findSome? id = some (n, u) ∧ CheckDetail s n u := by
  induction h with
  | nil => simp
  | @cons n c ns cs hc _ ih =>
    obtain ⟨hlt, hns⟩ := List.pairwise_cons.mp hns
    obtain ⟨hnone, hsome⟩ := ih hns
    by_cases hr : StartRelation s n
    · obtain rfl := hc.good hr
      refine ⟨by simpa [hr] using hnone, fun j hj hbefore hbad => ?_⟩
      obtain rfl | hj := List.mem_cons.mp hj
      · exact absurd hr hbad
      · simpa using hsome j hj (fun i hi => hbefore i (List.mem_cons_of_mem _ hi)) hbad
    · obtain ⟨u, rfl, hu⟩ := hc.bad hr
      refine ⟨by simp [hr], fun j hj hbefore hbad => ?_⟩
      obtain rfl | hj := List.mem_cons.mp hj
      · exact ⟨u, rfl, hu⟩
      · exact absurd (hbefore n (List.mem_cons_self ..) (hlt j hj)) hr

theorem firstFailed_eq_none (s : State) : firstFailed s = none ↔ ∀ n, 1 ≤ n → n ≤ 14 → StartRelation s n := by
  refine (findSome_answers (startChecks_answers s) (by decide)).1.trans ?_
  exact ⟨fun h n h1 h14 => h n (by simp; omega), fun h n hn => by
    have := List.mem_range'_1.mp hn
    exact h n (by omega) (by omega)⟩

theorem firstFailed_eq_some {s : State} {n : Nat} (h1 : 1 ≤ n) (h14 : n ≤ 14)
    (hbefore : ∀ j, 1 ≤ j → j < n → StartRelation s j) (hbad : ¬ StartRelation s n) :
    ∃ u, firstFailed s = some (n, u) ∧ CheckDetail s n u :=
  (findSome_answers (startChecks_answers s) (by decide)).2 n (by simp; omega)
    (fun j hj hlt => hbefore j (List.mem_range'_1.mp hj).1 hlt) hbad

end Sys2Proof.Machine
end

section
/-!
PROOF. What no act changes: geometry, setup, tables, generations, lock and format. The relations outside IDLE (O53), the
tables in use (O57) and the protected settings (O58).
-/

namespace Sys2Proof.Machine

/-! ## What every act leaves alone -/

/-- The bank store but for its in-use counts. -/
structure StoreSame (s t : State) : Prop where
  tables : ∀ id, (bankAt t.banks id).table = (bankAt s.banks id).table ∧
    (bankAt t.banks id).generation = (bankAt s.banks id).generation
  live : t.banks.live = s.banks.live
  generation : t.banks.generation = s.banks.generation
  lock : t.banks.lock = s.banks.lock

theorem StoreSame.of_eq {s t : State} (h : t.banks = s.banks) : StoreSame s t := by
  constructor <;> simp [h]

/-- A change of one bank's in-use count. -/
theorem storeSame_modBank {id : BankId} {g : Bank → Bank} {s t : State} (ht : t.banks = (modBank id g s).banks)
    (hg : ∀ b, (g b).table = b.table ∧ (g b).generation = b.generation) : StoreSame s t where
  tables j := by
    rw [ht, modBank_at]
    split
    · next h => subst h; exact hg _
    · exact ⟨rfl, rfl⟩
  live := by rw [ht]; cases id <;> rfl
  generation := by rw [ht]; cases id <;> rfl
  lock := by rw [ht]; cases id <;> rfl

theorem storeSame_unbind {id : BankId} {s t : State} (ht : t.banks = (unbind id s).banks) : StoreSame s t :=
  storeSame_modBank ht fun _ => ⟨rfl, rfl⟩

theorem TurretAct.storeSame {s t : State} (h : TurretAct s t) : StoreSame s t := by
  cases h with
  | classify k =>
    obtain he | ⟨p, v, -, -, ⟨why, he⟩ | ⟨c, -, he⟩⟩ := classify_cases k s <;> rw [he]
    · exact .of_eq rfl
    · exact storeSame_unbind (id := p.bank) (by simp [classCounted_banks])
    · exact storeSame_unbind (id := p.bank) (by simp [classCounted_banks])
  | departure =>
    unfold Machine.departure departRecord
    split
    · exact .of_eq rfl
    · next p _ =>
      split
      · exact storeSame_unbind (id := p.bank) (by simp)
      · exact .of_eq (by simp)
      · exact .of_eq (by simp)
      · exact .of_eq (by simp)
  | purgeOne b k =>
    unfold Machine.purgeOne purgeRelease
    split
    · exact .of_eq rfl
    · next p _ =>
      split
      · exact storeSame_unbind (id := p.bank) (by cases b <;> simp)
      · exact .of_eq (by cases b <;> simp)
      · exact .of_eq (by cases b <;> simp)
      · exact .of_eq (by cases b <;> simp)
  | home => exact .of_eq (home_keeps s).2.1
  | station | slot | rest | windowEnd | drop | passCheck | fire | addReason | exitMask | clean | track =>
    exact .of_eq (by simp)

/-- A station's setup (R52): all of its record but what the run writes. -/
def StationSame (x y : Station) : Prop :=
  y = { x with seq := y.seq, temp := y.temp, expired := y.expired, pulseEnd := y.pulseEnd }

theorem StationSame.trans {x y z : Station} (h : StationSame x y) (h' : StationSame y z) : StationSame x z := by
  unfold StationSame at *
  rw [h'] at *
  rw [h]

theorem StationSame.setup {x y : Station} (h : StationSame x y) :
    y.role = x.role ∧ y.offset = x.offset ∧ y.trigPhase = x.trigPhase ∧ y.trigWidth = x.trigWidth ∧
      y.deadline = x.deadline := by
  rw [h]
  exact ⟨rfl, rfl, rfl, rfl, rfl⟩

theorem TurretAct.stationSame {s t : State} (h : TurretAct s t) (m : StationNo) :
    StationSame s.stations[m] t.stations[m] := by
  have hsame (he : t.stations = s.stations) : StationSame s.stations[m] t.stations[m] := by rw [he]; rfl
  cases h with
  | station j g _ hg =>
    have hat := modStation_at j m g s
    by_cases he : m = j
    · subst he
      rw [if_pos rfl] at hat
      unfold StationSame
      exact (show (modStation m g s).stations[m] = g s.stations[m] from hat) ▸ hg _
    · rw [if_neg he] at hat
      exact (show (modStation j g s).stations[m] = s.stations[m] from hat) ▸ rfl
  | home => exact hsame (home_keeps s).2.2.2.2.1
  | slot | classify | rest | windowEnd | drop | passCheck | departure | fire | purgeOne | addReason | exitMask | clean
  | track => exact hsame (by simp)

/-- What no act changes. -/
structure SetupSame (s t : State) : Prop where
  geo : t.geo = s.geo
  stations : ∀ m : StationNo, StationSame s.stations[m] t.stations[m]
  lanes : ∀ l : LaneNo, t.lanes[l].attr = s.lanes[l].attr ∧ t.lanes[l].setup = s.lanes[l].setup
  store : StoreSame s t
  marks : t.report.formatTwo = s.report.formatTwo ∧ t.report.formatMark = s.report.formatMark
  idle : t.trk.st = .idle ↔ s.trk.st = .idle

theorem SetupSame.refl (s : State) : SetupSame s s where
  geo := rfl
  stations _ := rfl
  lanes _ := ⟨rfl, rfl⟩
  store := .of_eq rfl
  marks := ⟨rfl, rfl⟩
  idle := Iff.rfl

theorem StoreSame.trans {s t u : State} (h : StoreSame s t) (h' : StoreSame t u) : StoreSame s u where
  tables id := ⟨(h'.tables id).1.trans (h.tables id).1, (h'.tables id).2.trans (h.tables id).2⟩
  live := h'.live.trans h.live
  generation := h'.generation.trans h.generation
  lock := h'.lock.trans h.lock

theorem SetupSame.trans {s t u : State} (h : SetupSame s t) (h' : SetupSame t u) : SetupSame s u where
  geo := h'.geo.trans h.geo
  stations m := (h.stations m).trans (h'.stations m)
  lanes l := ⟨(h'.lanes l).1.trans (h.lanes l).1, (h'.lanes l).2.trans (h.lanes l).2⟩
  store := h.store.trans h'.store
  marks := ⟨h'.marks.1.trans h.marks.1, h'.marks.2.trans h.marks.2⟩
  idle := h'.idle.trans h.idle

/-- A state that differs in nothing of the setup's blocks. -/
theorem SetupSame.of_body {s t : State} (h : SameBody s t) (hm : t.report.formatTwo = s.report.formatTwo ∧
    t.report.formatMark = s.report.formatMark) : SetupSame s t where
  geo := h.geo
  stations m := by rw [h.stations]; rfl
  lanes l := by rw [h.lanes]; exact ⟨rfl, rfl⟩
  store := .of_eq h.banks
  marks := hm
  idle := by rw [h.trk]

theorem Act.setupSame {s t : State} (h : Act s t) : SetupSame s t := by
  cases h with
  | link h => exact .of_body h.sameBody h.marks.2
  | turret h =>
    exact {
      geo := h.trk_cases.1
      stations := h.stationSame
      lanes := fun l => ⟨(h.lanesMove l).attr, (h.lanesMove l).setup⟩
      store := h.storeSame
      marks := h.marks.2
      idle := by
        obtain ⟨-, htrk | ⟨hst, -⟩ | ⟨hst, rfl⟩⟩ := h.trk_cases
        · rw [htrk]
        · rw [hst]
        · simp [hst, home_trk] }

theorem loadSample_setupSame (s : State) : SetupSame s (loadSample s) where
  geo := by simp
  stations m := by simp; rfl
  lanes l := by rw [loadSample_lanes]; exact ⟨rfl, rfl⟩
  store := by
    obtain he | ⟨-, he⟩ := loadSample_cases s <;> rw [he]
    · exact .of_eq rfl
    · exact storeSame_modBank (id := s.banks.live) (g := fun b => { b with inUse := b.inUse + 1 })
        (by cases hl : s.banks.live <;> simp [loadTaken, modBank, hl]) fun _ => ⟨rfl, rfl⟩
  marks := by simp
  idle := by simp

theorem Motions.setupSame {s t : State} (h : Motions s t) : SetupSame s t :=
  h.keeps (P := SetupSame s) (fun _ _ ha hu => hu.trans ha.setupSame) (fun u hu => hu.trans (loadSample_setupSame u))
    (.refl s)

theorem Acts.setupSame {s t : State} (h : Acts s t) : SetupSame s t := h.motions.setupSame

end Sys2Proof.Machine
end

section
/-!
PROOF. The relations outside IDLE (O53), the tables in use (O57) and the protected settings (O58).
-/

namespace Sys2Proof.Machine

/-! ## The relations -/

/-- The relations are about the setup, and about which lanes are DISABLED and whether the LIVE bank is LOADED. -/
theorem startRelation_of_same {s t : State} (hg : t.geo = s.geo)
    (hx : ∀ m : StationNo, StationSame s.stations[m] t.stations[m])
    (hl : ∀ l : LaneNo, t.lanes[l].setup = s.lanes[l].setup)
    (ha : ∀ l : LaneNo, t.lanes[l].attr ≠ .disabled → s.lanes[l].attr ≠ .disabled ∨
      ∀ m : StationNo, measures s.stations[m] →
        s.stations[m].offset + s.stations[m].deadline < s.lanes[l].setup.offset)
    (hb : (bankAt s.banks s.banks.live).table.loaded = true → (bankAt t.banks t.banks.live).table.loaded = true)
    (hs : ∀ n, 1 ≤ n → n ≤ 14 → StartRelation s n) : ∀ n, 1 ≤ n → n ≤ 14 → StartRelation t n := by
  intro n h1 h14
  have hn := hs n h1 h14
  have hsetup (m : StationNo) := (hx m).setup
  unfold StartRelation at hn ⊢
  split at hn
  case h_8 =>
    obtain ⟨m, hm⟩ := hn
    exact ⟨m, by rw [(hsetup m).1]; exact hm⟩
  case h_11 =>
    intro m hm l hattr
    obtain ⟨hrole, hoff, -, -, hdl⟩ := hsetup m
    rw [hl, hoff, hdl]
    have hm' : measures s.stations[m] := by rw [measures, ← hrole]; exact hm
    exact (ha l hattr).elim (hn m hm' l) fun h => h m hm'
  case h_14 => exact hb hn
  case h_15 => trivial
  all_goals
    simpa only [measures, StationRelation, LaneRelation, hg, hl, fun m => (hsetup m).1, fun m => (hsetup m).2.1,
      fun m => (hsetup m).2.2.1, fun m => (hsetup m).2.2.2.1] using hn

theorem SetupSame.relations {s t : State} (h : SetupSame s t) (hs : RunsWithinRelations s) : RunsWithinRelations t := by
  intro hst
  refine startRelation_of_same h.geo h.stations (fun l => (h.lanes l).2) (fun l ha => .inl ?_) (fun hb => ?_)
    (hs fun hi => hst (h.idle.mpr hi))
  · rw [← (h.lanes l).1]; exact ha
  · rw [h.store.live, (h.store.tables _).1]; exact hb

theorem stagingId_ne (bs : BankStore) : stagingId bs ≠ bs.live := by
  unfold stagingId
  cases bs.live <;> simp

theorem laneClearsStations_iff (s : State) (l : LaneNo) :
    laneClearsStations s l = true ↔ ∀ m : StationNo, measures s.stations[m] →
      s.stations[m].offset + s.stations[m].deadline < s.lanes[l].setup.offset := by
  unfold laneClearsStations
  rw [List.all_eq_true]
  constructor
  · intro h m hm
    have := h m (mem_allStations m)
    rw [Bool.or_eq_true, beq_iff_eq, decide_eq_true_eq] at this
    exact this.resolve_left hm
  · intro h m _
    rw [Bool.or_eq_true, beq_iff_eq, decide_eq_true_eq]
    exact Classical.or_iff_not_imp_left.mpr (h m)

/-- A table write leaves the LIVE bank's table alone. -/
theorem writeStaging_table (tb : Table) (s : State) (id : BankId) :
    (bankAt (writeStaging tb s).banks id).table =
      if id = stagingId s.banks then tb else (bankAt s.banks id).table := by
  rw [writeStaging, modBank_at]
  split <;> rfl

theorem writeStaging_store (tb : Table) (s : State) :
    (writeStaging tb s).banks.live = s.banks.live ∧ (writeStaging tb s).banks.generation = s.banks.generation ∧
      (writeStaging tb s).banks.lock = s.banks.lock := by
  unfold writeStaging modBank
  cases stagingId s.banks <;> exact ⟨rfl, rfl, rfl⟩

theorem swapBanks_live (s : State) : (swapBanks s).banks.live = stagingId s.banks := rfl

theorem swapBanks_at (s : State) (id : BankId) :
    bankAt (swapBanks s).banks id =
      if id = stagingId s.banks then { bankAt s.banks id with generation := s.banks.generation + 1 }
      else bankAt s.banks id := by
  rw [swapBanks, State.setBanks_banks, bankAt_of_parts, modBank_at]
  split
  · next h => rw [h]
  · rfl

theorem relations_turretInvariant : TurretInvariant RunsWithinRelations where
  body h hs hst := startRelation_of_same h.geo (fun m => by rw [h.stations]; rfl) (fun l => by rw [h.lanes])
    (fun l ha => .inl (by rw [h.lanes] at ha; exact ha)) (fun hb => by rw [h.banks]; exact hb)
    (hs (by rw [h.trk] at hst; exact hst))
  turret h hs := h.act.setupSame.relations hs
  load s hs := (loadSample_setupSame s).relations hs
  setting {s t} h hs := by
    cases h with
    | geometry f g _ _ hi => exact fun hst => absurd hi hst
    | station m g _ _ hi => exact fun hst => absurd hi (by simpa using hst)
    | laneSetup l u _ _ hi => exact fun hst => absurd hi (by simpa using hst)
    | laneState o _ _ hclear =>
      obtain ⟨-, hbanks, -, hgeo, htrk, hstations, -⟩ := applyLaneOrder_keeps o s
      intro hst
      rw [htrk] at hst
      refine startRelation_of_same hgeo (fun m => by rw [hstations]; rfl) (fun l => ?_) (fun l ha => ?_)
        (fun hb => by rw [hbanks]; exact hb) (hs hst)
      · rw [applyLaneOrder_lanes]
        by_cases h : l = o.lane
        · subst h; rw [modLane_self]; rfl
        · rw [modLane_other h]
      · rw [applyLaneOrder_lanes] at ha
        by_cases h : l = o.lane
        · subst h
          rw [modLane_self] at ha
          refine Classical.or_iff_not_imp_left.mpr fun hdis => (laneClearsStations_iff s _).mp ?_
          exact by_contra fun hbad => hclear ⟨hst, by_contra hdis, ha, by simpa using hbad⟩
        · rw [modLane_other h] at ha
          exact .inl ha
    | laneEmpty l =>
      refine fun hst => startRelation_of_same (by simp) (fun m => by simp; rfl) (fun j => ?_) (fun j ha => .inl ?_) (by simp)
        (hs hst)
      · by_cases h : j = l
        · subst h; rw [modLane_self]
        · rw [modLane_other h]
      · by_cases h : j = l
        · subst h; rw [modLane_self] at ha; exact ha
        · rw [modLane_other h] at ha; exact ha
    | write tb =>
      refine fun hst => startRelation_of_same (by simp [writeStaging]) (fun m => by simp [writeStaging]; rfl)
        (by simp [writeStaging]) (fun l ha => .inl (by simpa [writeStaging] using ha)) (fun hb => ?_)
        (hs (by simpa [writeStaging] using hst))
      rw [(writeStaging_store tb s).1, writeStaging_table, if_neg (stagingId_ne _).symm]
      exact hb
    | swap _ _ hc =>
      refine fun hst => startRelation_of_same (by simp [swapBanks]) (fun m => by simp [swapBanks]; rfl)
        (by simp [swapBanks]) (fun l ha => .inl (by simpa [swapBanks] using ha)) (fun _ => ?_)
        (hs (by simpa [swapBanks] using hst))
      rw [swapBanks_live, swapBanks_at, if_pos rfl]
      exact ((Bool.and_eq_true _ _).mp hc).1
    | start _ hi hc => exact fun _ => (firstFailed_eq_none s).mp hc
    | stop => exact fun hst => absurd (announceIdle_st true s) hst
    | mode | tallyClear | format | lock | pause => exact hs
  idle b s _ := fun hst => absurd (announceIdle_st b s) hst
  idleStations v s hi _ := fun hst => absurd hi hst
  fullReset a b m s := fun hst => absurd rfl hst

/-- Settles O53: outside IDLE only LANE-STATE and BANK-SWAP touch what a relation is about, and both check it. -/
theorem relationsGoOnHolding : Obligations.RelationsGoOnHolding := by
  unfold Obligations.RelationsGoOnHolding
  exact fun s t hs h => relations_turretInvariant.stepInvariant.step hs h

/-! ## Settings and tables -/

/-- What the lock protects of the bank store and the format (R112). -/
structure StoreProtected (s t : State) : Prop where
  store : StoreSame s t
  marks : t.report.formatTwo = s.report.formatTwo ∧ t.report.formatMark = s.report.formatMark

/-- The geometry and the setup of stations and lanes. -/
structure SetupProtected (s t : State) : Prop where
  geo : t.geo = s.geo
  stations : ∀ m : StationNo, StationSame s.stations[m] t.stations[m]
  lanes : ∀ l : LaneNo, t.lanes[l].setup = s.lanes[l].setup

/-- What a command leaves of the settings (O58). -/
structure Protected (s t : State) : Prop where
  locked : s.banks.lock = true → StoreProtected s t
  setup : s.banks.lock = true ∨ s.trk.st ≠ .idle → SetupProtected s t

theorem SetupSame.protected {s t : State} (h : SetupSame s t) : Protected s t where
  locked _ := ⟨h.store, h.marks⟩
  setup _ := ⟨h.geo, h.stations, fun l => (h.lanes l).2⟩

theorem SetupProtected.trans {s t u : State} (h : SetupProtected s t) (h' : SetupProtected t u) : SetupProtected s u where
  geo := h'.geo.trans h.geo
  stations m := (h.stations m).trans (h'.stations m)
  lanes l := (h'.lanes l).trans (h.lanes l)

theorem StoreProtected.trans {s t u : State} (h : StoreProtected s t) (h' : StoreProtected t u) : StoreProtected s u where
  store := h.store.trans h'.store
  marks := ⟨h'.marks.1.trans h.marks.1, h'.marks.2.trans h.marks.2⟩

/-- Acts before and after a setting leave what it leaves. -/
theorem Protected.after {s t u : State} (h : SetupSame s t) (h' : Protected t u) : Protected s u where
  locked hl := (h.protected.locked hl).trans (h'.locked (h.store.lock.trans hl))
  setup hs := (h.protected.setup hs).trans (h'.setup (hs.imp h.store.lock.trans fun hi hi' => hi (h.idle.mp hi')))

/-- A setting that leaves the stations, the geometry and the lanes' setup alone is protected where the lock protects it. -/
theorem protected_of {s t : State} (hl : s.banks.lock = true → StoreProtected s t) (hg : t.geo = s.geo)
    (hx : t.stations = s.stations) (hs : ∀ l : LaneNo, t.lanes[l].setup = s.lanes[l].setup) : Protected s t where
  locked := hl
  setup _ := ⟨hg, fun m => by rw [hx]; rfl, hs⟩

theorem modLane_setup {l j : LaneNo} {g : Lane → Lane} {s : State} (h : ∀ L, (g L).setup = L.setup) :
    (modLane l g s).lanes[j].setup = s.lanes[j].setup := by
  by_cases hj : j = l
  · subst hj; rw [modLane_self, h]
  · rw [modLane_other hj]

/-- What the announcement of IDLE leaves of the setup. -/
theorem announceIdle_same (b : Bool) (s : State) :
    SetupProtected s (announceIdle b s) ∧ StoreProtected s (announceIdle b s) := by
  have hpurge (xs : List PocketNo) (t : State) : SetupSame t (xs.foldl (fun u k => purgeOne b k u) t) := by
    induction xs generalizing t with
    | nil => exact .refl t
    | cons k xs ih => exact (TurretAct.purgeOne b k t).act.setupSame.trans (ih _)
  rw [announceIdle_eq]
  have h := hpurge (purgeOrder s.geo (loadPocket s)) (s.setTrk { s.trk with st := .idle })
  have hidled (u : State) : SetupProtected u (idled u) ∧ StoreProtected u (idled u) :=
    ⟨⟨by simp [idled], fun m => by simp [idled]; rfl, fun l => by simp [idled, mapLanes, idleOn]⟩,
      ⟨.of_eq (by simp [idled]), by simp [idled]⟩⟩
  exact ⟨SetupProtected.trans (s := s) ⟨h.geo, h.stations, fun l => (h.lanes l).2⟩ (hidled _).1,
    StoreProtected.trans (s := s) ⟨⟨h.store.tables, h.store.live, h.store.generation, h.store.lock⟩, h.marks⟩ (hidled _).2⟩

theorem Setting.protected {s t : State} (h : Setting s t) : Protected s t := by
  have hidle (hl : s.banks.lock = false) (hi : s.trk.st = .idle) : Protected s t :=
    ⟨fun h => by simp [hl] at h, fun h => by simp [hl, hi] at h⟩
  have hunlocked (hl : s.banks.lock = false) : s.banks.lock = true → StoreProtected s t := fun h => by simp [hl] at h
  cases h with
  | geometry f g _ hl hi => exact hidle hl hi
  | station m g _ hl hi => exact hidle hl hi
  | laneSetup l u _ hl hi => exact hidle hl hi
  | laneState o =>
    obtain ⟨-, hbanks, -, hgeo, -, hstations, -⟩ := applyLaneOrder_keeps o s
    refine protected_of (fun _ => ⟨.of_eq hbanks, ?_⟩) hgeo hstations fun l => ?_
    · unfold applyLaneOrder
      dsimp only
      split <;> simp
    · rw [applyLaneOrder_lanes]
      exact modLane_setup fun _ => rfl
  | laneEmpty l => exact protected_of (fun _ => ⟨.of_eq (by simp), by simp⟩) (by simp) (by simp) fun j => modLane_setup fun _ => rfl
  | format two _ hl => exact protected_of (hunlocked hl) rfl rfl fun _ => rfl
  | write tb _ hl => exact protected_of (hunlocked hl) (by simp [writeStaging]) (by simp [writeStaging]) (by simp [writeStaging])
  | swap _ hl => exact protected_of (hunlocked hl) (by simp [swapBanks]) (by simp [swapBanks]) (by simp [swapBanks])
  | lock =>
    exact protected_of (fun hl => ⟨⟨fun id => by cases id <;> exact ⟨rfl, rfl⟩, rfl, rfl, hl.symm⟩, by simp⟩) rfl rfl
      fun _ => rfl
  | stop => exact ⟨fun _ => (announceIdle_same true s).2, fun _ => (announceIdle_same true s).1⟩
  | mode | tallyClear | start | pause => exact protected_of (fun _ => ⟨.of_eq rfl, rfl, rfl⟩) rfl rfl fun _ => rfl

/-- What follows a command's acts leaves the settings alone too. -/
theorem Protected.then {s t u : State} (h : Protected s t) (h' : SetupSame t u) : Protected s u where
  locked hl := (h.locked hl).trans ⟨h'.store, h'.marks⟩
  setup hs := (h.setup hs).trans ⟨h'.geo, h'.stations, fun l => (h'.lanes l).2⟩

theorem replied_setupSame (f : Frame) (a : Answer) (s : State) : SetupSame s (replied f a s) :=
  .of_body ⟨rfl, rfl, rfl, rfl, rfl, rfl, rfl, rfl⟩ ⟨rfl, rfl⟩

theorem keepPlace_setupSame (s : State) : SetupSame s (keepPlace s) := .of_body {} ⟨rfl, rfl⟩

theorem dropHead_setupSame (s : State) : SetupSame s (dropHead s) := .of_body {} (by simp)

theorem completeFrame_setupSame (s : State) : SetupSame s (completeFrame s) := by
  refine .of_body (completeFrame_sameBody s) ?_
  unfold completeFrame handPlace
  repeat' split
  all_goals simp

theorem opened_setupSame (s : State) : SetupSame s (opened s) := (LinkAct.opened s).act.setupSame

theorem settled_setupSame (s : State) : SetupSame s (settled s) := (settled_acts s).setupSame

/-- The run reset keeps the setup and the bank store. -/
theorem takeRunReset_same (f : Frame) (s : State) :
    SetupProtected s (takeRunReset f s) ∧ StoreProtected s (takeRunReset f s) := by
  obtain ⟨hsetup, hstore⟩ := announceIdle_same false s
  refine ⟨hsetup.trans ⟨?_, fun m => ?_, fun l => ?_⟩, hstore.trans ⟨.of_eq ?_, ?_⟩⟩
  · simp [takeRunReset, runResetState]
  · simp [takeRunReset, runResetState, runResetStation, StationSame]
  · simp [takeRunReset, runResetState]
  · simp [takeRunReset, runResetState]
  · simp [takeRunReset, runResetState, placeReply, enqueue]

theorem Effect.protected {s t : State} (h : Effect s t) : Protected s t :=
  h.elim (fun h => h.setupSame.protected) fun h => h.protected

theorem Ran.protected {s t : State} (h : Ran s t) : Protected s t := by
  cases h with
  | acts h => exact h.setupSame.protected
  | @answered u f a hb h =>
    exact (Protected.after ((settled_setupSame s).trans (keepPlace_setupSame _)) h.protected).then (replied_setupSame f a u)
  | discarded h => exact (h.setupSame.trans (dropHead_setupSame _)).protected
  | completed => exact ((opened_setupSame s).trans (completeFrame_setupSame _)).protected
  | runReset f =>
    obtain ⟨hsetup, hstore⟩ := takeRunReset_same f (settled s)
    exact .after (settled_setupSame s) ⟨fun _ => hstore, fun _ => hsetup⟩

/-- A command other than FULL_RESET is a motion, or runs by `Ran`. -/
theorem exec_cases {c : Instr} {s t : State} (hc : ∀ a b m, c ≠ .fullReset a b m) (h : exec c s = .next t) :
    Motions s t ∨ Ran s t := by
  cases hm : isMotion c with
  | true => exact .inl (exec_motions hm h)
  | false =>
    refine .inr (exec_ran hm ?_ h)
    cases c with
    | fullReset a b m => exact absurd rfl (hc a b m)
    | _ => rfl

theorem exec_protected {c : Instr} {s t : State} (hc : ∀ a b m, c ≠ .fullReset a b m) (h : exec c s = .next t) :
    Protected s t := (exec_cases hc h).elim (fun h => h.setupSame.protected) fun h => h.protected

/-- Settles O58: the settings change by frames alone, which the lock or the tracker's state refuses. -/
theorem settingsKept : Obligations.SettingsKept := by
  unfold Obligations.SettingsKept
  intro c s t hc h
  have hp := exec_protected hc h
  refine ⟨fun hl => ?_, fun hs => ?_⟩
  · obtain ⟨hstore, hmarks⟩ := hp.locked hl
    exact ⟨hstore.lock.trans hl, hstore.live, hstore.generation, hstore.tables, hmarks⟩
  · obtain ⟨hgeo, hstations, hlanes⟩ := hp.setup hs
    exact ⟨hgeo, hstations, hlanes⟩

/-! ## The tables in use -/

theorem StoreSame.generationMatches {s t : State} (h : StoreSame s t) (hs : GenerationMatches s) : GenerationMatches t := by
  unfold GenerationMatches
  rw [h.generation, h.live, (h.tables _).2]
  exact hs

/-- A setting writes the STAGING bank's table alone, and only while no record is bound to it. -/
theorem Setting.tables {s t : State} (h : Setting s t) (id : BankId) (hid : id = s.banks.live ∨ 0 < (bankAt s.banks id).inUse) :
    (bankAt t.banks id).table = (bankAt s.banks id).table := by
  cases h with
  | write tb _ _ hu =>
    rw [writeStaging_table, if_neg]
    rintro rfl
    obtain hlive | huse := hid
    · exact stagingId_ne _ hlive
    · exact absurd huse (by rw [show (bankAt s.banks (stagingId s.banks)).inUse = 0 from hu]; exact lt_irrefl 0)
  | swap => rw [swapBanks_at]; split <;> rfl
  | laneState o => rw [(applyLaneOrder_keeps o s).2.1]
  | stop => exact ((announceIdle_same true s).2.store.tables id).1
  | lock => cases id <;> rfl
  | geometry | station | laneSetup | laneEmpty | mode | tallyClear | format | start | pause => simp

theorem Setting.generationMatches {s t : State} (h : Setting s t) (hs : GenerationMatches s) : GenerationMatches t := by
  cases h with
  | write tb =>
    obtain ⟨hlive, hgen, -⟩ := writeStaging_store tb s
    have hat : bankAt (writeStaging tb s).banks s.banks.live = bankAt s.banks s.banks.live := by
      rw [writeStaging, modBank_at, if_neg (stagingId_ne _).symm]
    unfold GenerationMatches
    rw [hlive, hgen, hat]
    exact hs
  | swap =>
    unfold GenerationMatches
    rw [swapBanks_live, swapBanks_at, if_pos rfl]
    rfl
  | laneState o => exact (StoreSame.of_eq (applyLaneOrder_keeps o s).2.1).generationMatches hs
  | stop => exact (announceIdle_same true s).2.store.generationMatches hs
  | lock =>
    refine hs.trans ?_
    show _ = (bankAt { s.banks with lock := true } s.banks.live).generation
    cases s.banks.live <;> rfl
  | geometry | station | laneSetup | laneEmpty | mode | tallyClear | format | start | pause =>
    exact (StoreSame.of_eq (by simp)).generationMatches hs

/-- The tables and the generation after a command. -/
theorem Ran.tables {s t : State} (h : Ran s t) :
    (GenerationMatches s → GenerationMatches t) ∧
      ∀ id, (id = s.banks.live ∨ 0 < (bankAt (settled s).banks id).inUse) →
        (bankAt t.banks id).table = (bankAt s.banks id).table := by
  have hsame {u : State} (hu : StoreSame s u) : (GenerationMatches s → GenerationMatches u) ∧
      ∀ id, (id = s.banks.live ∨ 0 < (bankAt (settled s).banks id).inUse) →
        (bankAt u.banks id).table = (bankAt s.banks id).table := ⟨hu.generationMatches, fun id _ => (hu.tables id).1⟩
  cases h with
  | acts h => exact hsame h.setupSame.store
  | @answered u f a hb h =>
    have hsettled := (settled_setupSame s).store
    obtain h | h := h
    · exact hsame (hsettled.trans ((keepPlace_setupSame _).store.trans (h.setupSame.store.trans (replied_setupSame f a u).store)))
    · have hkept := (keepPlace_setupSame (settled s)).store
      have hreplied := (replied_setupSame f a u).store
      refine ⟨fun hs => hreplied.generationMatches (h.generationMatches
        (hkept.generationMatches (hsettled.generationMatches hs))), fun id hid => ?_⟩
      have hbanks : (keepPlace (settled s)).banks = (settled s).banks := by simp
      rw [← hsettled.live, ← hbanks] at hid
      rw [(hreplied.tables id).1, h.tables id hid, (hkept.tables id).1, (hsettled.tables id).1]
  | discarded h => exact hsame (h.setupSame.store.trans (dropHead_setupSame _).store)
  | completed => exact hsame ((opened_setupSame s).store.trans (completeFrame_setupSame _).store)
  | runReset f => exact hsame ((settled_setupSame s).store.trans (takeRunReset_same f _).2.store)

/-- Settles O57: a table is written in the STAGING bank alone, with no record bound to it. -/
theorem tablesInUseKept : Obligations.TablesInUseKept := by
  unfold Obligations.TablesInUseKept
  intro c s t h
  have hcases (hc : ∀ a b m, c ≠ .fullReset a b m) := exec_cases hc h
  refine ⟨fun hs => ?_, fun hc id hid => ?_⟩
  · cases c with
    | fullReset a b m => obtain rfl := Host.Outcome.next.inj h; rfl
    | _ =>
      exact (hcases (by simp)).elim (fun hm => hm.setupSame.store.generationMatches hs) fun hr => hr.tables.1 hs
  · exact (hcases hc).elim (fun hm => (hm.setupSame.store.tables id).1) fun hr => hr.tables.2 id hid

end Sys2Proof.Machine
end

section
/-!
PROOF. The queues stay bounded (O49), and the inbound frames well formed (O50).
-/

namespace Sys2Proof.Machine

/-! ## The fill of the report queue -/

/-- The fill is read from the report queue alone. -/
@[simp] theorem fill_set (s : State) :
    (∀ v, fill (s.setGeo v) = fill s) ∧ (∀ v, fill (s.setTrk v) = fill s) ∧ (∀ v, fill (s.setRing v) = fill s) ∧
    (∀ v, fill (s.setSerial v) = fill s) ∧ (∀ v, fill (s.setLoadPause v) = fill s) ∧ (∀ v, fill (s.setStations v) = fill s) ∧
    (∀ v, fill (s.setBanks v) = fill s) ∧ (∀ v, fill (s.setLanes v) = fill s) ∧ (∀ v, fill (s.setOverflow v) = fill s) ∧
    (∀ v, fill (s.setMask v) = fill s) ∧ (∀ v, fill (s.setRx v) = fill s) ∧ (∀ v, fill (s.setInbound v) = fill s) ∧
    (∀ v, fill (s.setTx v) = fill s) ∧ (∀ v, fill (s.setTally v) = fill s) ∧ (∀ v, fill (s.setEvents v) = fill s) ∧
    (∀ v, fill (s.setCounters v) = fill s) ∧ (∀ v, fill (s.setPins v) = fill s) ∧ (∀ v, fill (s.setChoice v) = fill s) ∧
    (∀ v, fill (s.setPending v) = fill s) := by
  simp [fill]

@[simp] theorem fill_ops (s : State) :
    (∀ l g, fill (modLane l g s) = fill s) ∧ (∀ g, fill (mapLanes g s) = fill s) ∧
    (∀ m g, fill (modStation m g s) = fill s) ∧ (∀ k r, fill (setRecord k r s) = fill s) ∧
    (∀ id g, fill (modBank id g s) = fill s) ∧ (∀ id, fill (unbind id s) = fill s) ∧
    (∀ i, fill (tallyCount i s) = fill s) ∧ (∀ k p, fill (purgeRelease k p s) = fill s) := by
  simp [fill]

@[simp] theorem fill_counts (s : State) :
    fill (countRunt s) = fill s ∧ fill (countBadSum s) = fill s ∧ fill (countOverrun s) = fill s ∧
    fill (countLate s) = fill s ∧ fill (countDuplicate s) = fill s ∧ fill (countUnexpected s) = fill s ∧
    fill (countStray s) = fill s ∧ fill (countEjectMiss s) = fill s ∧ fill (countReportDrop s) = fill s := by
  simp [fill]

/-- The handed place becomes a queued frame: the fill stays. -/
@[simp] theorem fill_admitHanded (s : State) : fill (admitHanded s) = fill s := by
  unfold admitHanded
  split
  · next h =>
    simp only [fill, State.setEvents_report, State.setReport_report, List.length_append, List.length_singleton, h,
      Bool.toNat_false, Bool.toNat_true]
    omega
  · rfl

@[simp] theorem fill_opened (s : State) : fill (opened s) = fill s := (fill_admitHanded s : _)

/-- A notice is admitted below 32 only. -/
@[simp] theorem fill_raise {fl : Flag} {s : State} (h : fill s ≤ 32) : fill (raise fl s) ≤ 32 := by
  have hoffer (t : State) (ht : fill t ≤ 32) : fill (offerNotice t) ≤ 32 := by
    unfold offerNotice
    split
    · next hroom =>
      have hroom' : fill t < 32 := hroom
      simp only [fill, enqueue, State.setReport_report, List.length_append, List.length_singleton] at hroom' ⊢
      omega
    · split <;> simpa using ht
  unfold raise
  split
  · dsimp only
    split
    · simpa using h
    · exact hoffer _ (by simpa using h)
  · exact h

/-- A report is admitted below 28 only. -/
@[simp] theorem fill_handReport {r : PartReport} {s : State} (h : fill s ≤ 32) : fill (handReport r s) ≤ 32 := by
  unfold handReport
  split
  · next hroom =>
    have hroom' : fill s < 28 := hroom
    simp only [fill, enqueue, State.setReport_report, List.length_append, List.length_singleton] at hroom' ⊢
    omega
  · simp [h]

@[simp] theorem fill_deliver {l : LaneNo} {k : PocketNo} {p : Part} {s : State} (h : fill s ≤ 32) :
    fill (deliver l k p s) ≤ 32 := by simp [deliver, h]

@[simp] theorem fill_depart {o : OutcomeKind} {k : PocketNo} {p : Part} {s : State} (h : fill s ≤ 32) :
    fill (depart o k p s) ≤ 32 := by simp [depart, h]

theorem fill_departure {s : State} (h : fill s ≤ 32) : fill (departure s) ≤ 32 := by
  unfold departure departRecord
  split
  · exact h
  · split <;> simp [h]

theorem fill_purgeOne (b : Bool) (k : PocketNo) {s : State} (h : fill s ≤ 32) : fill (purgeOne b k s) ≤ 32 := by
  unfold purgeOne
  split
  · exact h
  · cases b <;> simp [h]

theorem fill_purge (load : Nat) (b : Bool) {s : State} (h : fill s ≤ 32) : fill (purge load b s) ≤ 32 := by
  have hfold (xs : List PocketNo) (t : State) (ht : fill t ≤ 32) :
      fill (xs.foldl (fun u k => purgeOne b k u) t) ≤ 32 := by
    induction xs generalizing t with
    | nil => exact ht
    | cons k xs ih => exact ih _ (fill_purgeOne b k ht)
  exact hfold _ s h

theorem fill_announceIdle (b : Bool) {s : State} (h : fill s ≤ 32) : fill (announceIdle b s) ≤ 32 := by
  have := fill_purge (loadPocket s) b (s := s.setTrk { s.trk with st := .idle }) (by simpa using h)
  simpa [announceIdle] using this

theorem TurretAct.fill {s t : State} (h : TurretAct s t) (hs : fill s ≤ 32) : fill t ≤ 32 := by
  cases h with
  | station | slot | rest | track | clean => simpa using hs
  | passCheck l => rw [Machine.fill, (passCheck_keeps l s).2.2.2.2.2.2.2.2.2.2.2.1]; exact hs
  | classify k =>
    unfold Machine.classify resolveRoute reserve
    dsimp only
    repeat' split
    all_goals simp [hs]
  | windowEnd l =>
    unfold takeWindowEnd missRecord
    repeat' split
    all_goals simp [hs]
  | drop l =>
    unfold dropEdge confirmRecord
    repeat' split
    all_goals simp [hs]
  | departure => exact fill_departure hs
  | fire e l =>
    unfold firePhase
    dsimp only
    repeat' split
    all_goals simp [hs]
  | purgeOne b k => exact fill_purgeOne b k hs
  | addReason a b c =>
    unfold Machine.addReason enterMask
    dsimp only
    repeat' split
    all_goals simp [hs]
  | exitMask => unfold Machine.exitMask; dsimp only; split <;> simp [hs]
  | home => rw [Machine.fill, (home_keeps s).2.2.2.2.2.2]; exact hs

/-- No act at the turret touches the receiver or the inbound queue. -/
theorem TurretAct.inbound {s t : State} (h : TurretAct s t) : t.rx = s.rx ∧ t.inbound = s.inbound := by
  cases h with
  | drop l =>
    unfold dropEdge confirmRecord
    repeat' split
    all_goals simp
  | home => unfold Machine.home; dsimp only; split <;> simp
  | station | slot | classify | rest | windowEnd | passCheck | departure | fire | purgeOne | addReason | exitMask | clean
  | track => simp

theorem Setting.inbound {s t : State} (h : Setting s t) : t.rx = s.rx ∧ t.inbound = s.inbound := by
  cases h with
  | laneState o => unfold applyLaneOrder; dsimp only; split <;> simp
  | write | swap => simp [writeStaging, swapBanks]
  | geometry | station | laneSetup | laneEmpty | mode | tallyClear | format | lock | start | stop | pause => simp

theorem Setting.fill {s t : State} (h : Setting s t) (hs : fill s ≤ 32) : fill t ≤ 32 := by
  cases h with
  | laneState o => unfold applyLaneOrder; dsimp only; split <;> simp [hs]
  | format => exact hs
  | stop => exact fill_announceIdle true hs
  | write | swap => simp [writeStaging, swapBanks, hs]
  | geometry | station | laneSetup | laneEmpty | mode | tallyClear | lock | start | pause => simp [hs]

theorem LinkAct.queuesBounded {s t : State} (h : LinkAct s t) (hs : QueuesBounded s) : QueuesBounded t := by
  obtain ⟨hin, hfill⟩ := hs
  cases h with
  | takeHeader =>
    unfold Machine.takeHeader runt QueuesBounded
    dsimp only
    repeat' split
    all_goals simp [hin, hfill]
  | takeComplete =>
    unfold Machine.takeComplete arrive QueuesBounded
    dsimp only
    repeat' split
    case isTrue.isTrue.isTrue hroom => 
      have hroom' : s.inbound.length < 8 := hroom
      simpa using ⟨by omega, hfill⟩
    all_goals simp [hin, hfill]
  | endFrame => unfold Machine.endFrame runt QueuesBounded; dsimp only; split <;> simp [hin, hfill]
  | sampleBit => unfold Machine.sampleBit QueuesBounded; split <;> simp [hin, hfill]
  | opened | admitHanded | raise | counters | events | pins | tx | choice | startFrame => simp [QueuesBounded, hin, hfill]

theorem loadSample_report (s : State) : (loadSample s).report = s.report := by simp

/-- The place handed on at a completion is the one that the head frame held. -/
theorem fill_completeFrame {s : State} (h : fill s ≤ 32) : fill (completeFrame s) ≤ 32 := by
  unfold completeFrame handPlace
  split
  · split
    · simpa using h
    · next f rest hq =>
      have hone := Bool.toNat_le s.report.noticePlace
      have htwo := Bool.toNat_le s.report.replyPlace
      simp only [fill, hq, List.length_cons] at h
      repeat' split
      all_goals
        simp only [fill, State.setReport_report, Bool.toNat_true]
        omega
  · exact h

theorem queuesBounded_stepInvariant : StepInvariant QueuesBounded where
  link h hs := h.queuesBounded hs
  turret h hs := ⟨by rw [h.inbound.2]; exact hs.1, h.fill hs.2⟩
  load s hs := ⟨by simpa using hs.1, by rw [fill, loadSample_report]; exact hs.2⟩
  setting h hs := ⟨by rw [h.inbound.2]; exact hs.1, h.fill hs.2⟩
  keepPlace s hb hs := by
    refine ⟨by simpa using hs.1, ?_⟩
    have hfill := hs.2
    have hone := Bool.toNat_le s.report.replyPlace
    simp only [fill, keepPlace, State.setReport_report, Bool.toNat_true] at hfill ⊢
    obtain hkept | hroom := hb
    · rw [hkept] at hfill; exact hfill
    · simp only [fill] at hroom
      omega
  reply f a s hkept hs := by
    refine ⟨?_, ?_⟩
    · have := hs.1
      simp only [replied, List.length_tail]
      omega
    · have hfill := hs.2
      simp only [fill, hkept, Bool.toNat_true] at hfill
      simpa [fill, replied] using hfill
  dropHead s hs := by
    refine ⟨?_, by simpa [dropHead] using hs.2⟩
    have := hs.1
    simp only [dropHead, State.setInbound_inbound, List.length_tail]
    omega
  complete s hs := by
    have hin : (completeFrame s).inbound = s.inbound := by
      unfold completeFrame handPlace
      repeat' split
      all_goals simp
    exact ⟨by rw [hin]; exact hs.1, fill_completeFrame hs.2⟩
  runReset f s _ := by
    simp [QueuesBounded, fill, takeRunReset, runResetState, placeReply, enqueue]
  fullReset a b m s := by simp [QueuesBounded, fill, fullReset, State.atRelease, ReportQueue.reset]
  pending cs s hs := hs

/-- Settles O49: each frame that joins a queue finds room, and a place handed on is one that was held. -/
theorem queuesStayBounded : Obligations.QueuesStayBounded := by
  unfold Obligations.QueuesStayBounded
  exact fun s t hs h => queuesBounded_stepInvariant.step hs h

/-! ## The receiver -/

/-- The inbound frames and the receiver together. -/
def ReceiverSound (s : State) : Prop := InboundWellFormed s ∧ ReceiverConsistent s

theorem receiverSound_of_same {s t : State} (hrx : t.rx = s.rx) (hin : ∀ f ∈ t.inbound, f ∈ s.inbound)
    (hs : ReceiverSound s) : ReceiverSound t :=
  ⟨fun f hf => hs.1 f (hin f hf), by unfold ReceiverConsistent; rw [hrx]; exact hs.2⟩

theorem wordSum_append (ws : List Word16) (w : Word16) : wordSum (ws ++ [w]) = wordSum ws + w := by
  simp [wordSum]

/-- A receiver that is not in RECEIVING has nothing to answer for. -/
theorem receiverSound_of_idle {s t : State} (hst : t.rx.st ≠ .receiving) (hin : t.inbound = s.inbound)
    (hs : ReceiverSound s) : ReceiverSound t :=
  ⟨fun f hf => hs.1 f (hin ▸ hf), fun h => absurd h hst⟩

/-- A bit taken where neither the header nor the frame is due goes on with a word that the frame still lacks. -/
theorem shiftBit_consistent {s : State} (d : Bool) (hh : headerDue s = false) (hf : frameDue s = false)
    (hst : s.rx.st = .receiving) (hs : ReceiverConsistent s) : ReceiverConsistent (s.setRx (shiftBit d s.rx)) := by
  intro _
  obtain ⟨hlen, hsum, hbits, hnone, hsome⟩ := hs hst
  have hstart : s.rx.declared = none → s.rx.wordCount = 0 := fun hd =>
    (hnone hd).resolve_right fun ⟨hw, hb⟩ => by simp [headerDue, hst, hw, hb, hd] at hh
  have hlacks : ∀ n ∈ s.rx.declared, s.rx.wordCount < n := fun n hn =>
    (hsome n hn).2.2.2.2.resolve_right fun ⟨hw, hb⟩ => by
      rw [Option.mem_def] at hn
      simp [frameDue, hst, hw, hb, hn] at hf
  rw [State.setRx_rx, shiftBit]
  split
  · refine ⟨by simp [hlen], by rw [wordSum_append, hsum], by simp, fun hd => .inr ⟨by simp [hstart hd], rfl⟩, fun n hn => ?_⟩
    obtain ⟨hdecl, h2, h16, hone, -⟩ := hsome n hn
    have hfirst : declaredLength (s.rx.words ++ [(s.rx.shift <<< 1) ||| (BitVec.ofBool d).setWidth 16]) =
        declaredLength s.rx.words := by
      cases hw : s.rx.words with
      | nil => rw [hw] at hlen; simp at hlen; omega
      | cons w ws => rfl
    have := hlacks n hn
    refine ⟨hdecl.trans hfirst.symm, h2, h16, Nat.le_add_left .., ?_⟩
    dsimp only
    omega
  · refine ⟨hlen, hsum, by dsimp only; omega, fun hd => .inl (hstart hd), fun n hn => ?_⟩
    obtain ⟨hdecl, h2, h16, hone, -⟩ := hsome n hn
    exact ⟨hdecl, h2, h16, hone, .inl (hlacks n hn)⟩

theorem takeHeader_sound {s : State} (hs : ReceiverSound s) : ReceiverSound (takeHeader s) := by
  unfold takeHeader
  split
  · next hdue =>
    dsimp only
    split
    · next hn =>
      refine ⟨hs.1, fun _ => ?_⟩
      simp only [headerDue, Bool.and_eq_true, beq_iff_eq] at hdue
      obtain ⟨⟨⟨hst, hw⟩, hb⟩, -⟩ := hdue
      obtain ⟨hlen, hsum, hbits, -⟩ := hs.2 hst
      refine ⟨hlen, hsum, hbits, fun h => by simp at h, fun n h => ?_⟩
      obtain rfl : declaredLength s.rx.words = n := by simpa using h
      refine ⟨rfl, hn.1, hn.2, ?_, .inl ?_⟩
      · show 1 ≤ s.rx.wordCount
        omega
      · show s.rx.wordCount < _
        omega
    · exact receiverSound_of_idle (by simp [runt]) (by simp [runt]) hs
  · exact hs

theorem takeComplete_sound {s : State} (hs : ReceiverSound s) : ReceiverSound (takeComplete s) := by
  unfold takeComplete arrive
  split
  · next hdue =>
    simp only [frameDue, Bool.and_eq_true, beq_iff_eq] at hdue
    obtain ⟨⟨hst, hb⟩, hd⟩ := hdue
    obtain ⟨hlen, hsum, -, -, hsome⟩ := hs.2 hst
    obtain ⟨hdecl, h2, h16, -⟩ := hsome _ hd
    dsimp only
    split
    · next hzero =>
      split
      · refine ⟨fun f hf => ?_, fun h => by simp at h⟩
        obtain hf | hf := List.mem_append.mp hf
        · exact hs.1 f hf
        · obtain rfl := List.mem_singleton.mp hf
          rw [hdecl] at h2 h16 hlen
          simp [Frame.wellFormed, Frame.lengthAllowed, Frame.lengthAgrees, Frame.sumsToZero, h2, h16, hlen, ← hsum, hzero]
      · exact receiverSound_of_idle (by simp) (by simp) hs
    · exact receiverSound_of_idle (by simp) (by simp) hs
  · exact hs

theorem LinkAct.receiverSound {s t : State} (h : LinkAct s t) (hs : ReceiverSound s) : ReceiverSound t := by
  cases h with
  | startFrame =>
    exact ⟨hs.1, fun _ => ⟨rfl, rfl, Nat.zero_le _, fun _ => .inl rfl, fun n hn => by simp [Machine.startFrame] at hn⟩⟩
  | takeHeader => exact takeHeader_sound hs
  | takeComplete => exact takeComplete_sound hs
  | endFrame =>
    unfold Machine.endFrame runt
    dsimp only
    split
    · exact receiverSound_of_idle (by simp [Receiver.reset]) (by simp) hs
    · exact receiverSound_of_idle (by simp [Receiver.reset]) (by simp) hs
  | sampleBit d _ hh hf =>
    unfold Machine.sampleBit
    split
    · next hst => exact ⟨hs.1, shiftBit_consistent d hh hf hst hs.2⟩
    · exact hs
  | opened | admitHanded | raise | counters | events | pins | tx | choice => exact receiverSound_of_same (by simp) (by simp) hs

theorem receiverSound_stepInvariant : StepInvariant ReceiverSound where
  link h hs := h.receiverSound hs
  turret h hs := receiverSound_of_same h.inbound.1 (by simp [h.inbound.2]) hs
  load s hs := receiverSound_of_same (by simp) (by simp) hs
  setting h hs := receiverSound_of_same h.inbound.1 (by simp [h.inbound.2]) hs
  keepPlace s _ hs := hs
  reply f a s _ hs := receiverSound_of_same (s := s) rfl (fun g hg => List.mem_of_mem_tail (l := s.inbound) hg) hs
  dropHead s hs := receiverSound_of_same (by simp) (fun g hg => List.mem_of_mem_tail hg) hs
  complete s hs := by
    unfold completeFrame handPlace
    repeat' split
    all_goals exact receiverSound_of_same (by simp) (by simp) hs
  runReset f s hs := receiverSound_of_same (by simp [takeRunReset, runResetState]) (by simp [takeRunReset, runResetState]) hs
  fullReset a b m s := ⟨fun f hf => by simp [fullReset, State.atRelease] at hf, fun hst => by
    cases m <;> simp [fullReset, State.atRelease, Receiver.reset] at hst⟩
  pending cs s hs := hs

/-- Settles O50: the receiver's counts follow its words bit by bit, and a frame arrives with all its declared words. -/
theorem inboundFramesStayWellFormed : Obligations.InboundFramesStayWellFormed := by
  unfold Obligations.InboundFramesStayWellFormed
  exact fun s t hi hr h => receiverSound_stepInvariant.step (P := ReceiverSound) ⟨hi, hr⟩ h

end Sys2Proof.Machine
end

section
/-!
PROOF. The step (O1, O2), FULL_RESET (O3), the output lines (O43) and the reset state (O60).
-/

namespace Sys2Proof.Machine

/-! ## The bits of a frame -/

@[simp] theorem frameBits_length (f : Frame) : (frameBits f).length = 16 * f.length := by
  induction f with
  | nil => rfl
  | cons w ws ih =>
    rw [frameBits] at ih ⊢
    rw [List.flatMap_cons, List.length_append, ih]
    simp
    omega

/-- Bit n of a frame is bit 15 − n mod 16 of its word n / 16. -/
theorem frameBits_at (f : Frame) (n : Nat) (h : n < 16 * f.length) :
    (frameBits f)[n]? = some ((f.getD (n / 16) 0).getLsbD (15 - n % 16)) := by
  induction f generalizing n with
  | nil => simp at h
  | cons w ws ih =>
    have hcons : frameBits (w :: ws) = (List.range 16).map (fun i => w.getMsbD i) ++ frameBits ws := rfl
    rw [hcons]
    by_cases hn : n < 16
    · rw [List.getElem?_append_left (by simpa using hn), Nat.div_eq_of_lt hn, Nat.mod_eq_of_lt hn]
      simp [hn, BitVec.getMsbD]
    · have hlast : n - 16 < 16 * ws.length := by simp at h; omega
      rw [List.getElem?_append_right (by simpa using hn)]
      simp only [List.length_map, List.length_range]
      rw [ih (n - 16) hlast]
      have hdiv : n / 16 = (n - 16) / 16 + 1 := by omega
      have hmod : n % 16 = (n - 16) % 16 := by omega
      rw [hdiv, hmod]
      rfl

/-! ## The step -/

/-- Settles O1. -/
theorem stepRunsFrontCommand : Obligations.StepRunsFrontCommand := by
  unfold Obligations.StepRunsFrontCommand
  intro c rest s h
  simp only [step, h]

theorem nextBit_count (t : Transmitter) : sentBits (nextBit t) = sentBits t + 1 ∧ (nextBit t).sending = t.sending ∧
    (t.bits ≤ 15 → (nextBit t).bits ≤ 15) := by
  unfold nextBit sentBits
  split
  · next h => exact ⟨by dsimp only; omega, rfl, fun _ => Nat.zero_le _⟩
  · next h => exact ⟨by dsimp only; omega, rfl, fun hb => by dsimp only; omega⟩

/-- Settles O2. -/
theorem idleStepOnlySends : Obligations.IdleStepOnlySends := by
  unfold Obligations.IdleStepOnlySends
  intro s hp
  have hstep : step s = .next (sendBit s) := by simp only [step, hp]
  rw [hstep]
  refine ⟨fun h => ?_, fun f rest n hs hq hn => ?_⟩
  · have hidle : sendBit s = s := by
      unfold sendBit
      obtain h | h := h <;> simp [h]
    rw [hidle]
  · have hsend : sendBit s = if n + 1 < 16 * (outWords f).length then s.setTx (nextBit s.tx) else s := by
      subst hn
      simp [sendBit, hs, hq, sentBits]
    rw [hsend]
    refine ⟨fun h => ?_, fun h => by rw [if_neg (Nat.not_lt.mpr h)]⟩
    obtain ⟨hcount, hsending, hbits⟩ := nextBit_count s.tx
    exact ⟨nextBit s.tx, by rw [if_pos h], hsending.trans hs, by rw [hn]; exact hcount, hbits⟩

/-! ## FULL_RESET -/

/-- Settles O3. -/
theorem fullResetLeaves : Obligations.FullResetLeaves := by
  unfold Obligations.FullResetLeaves
  intro a b mfs s
  refine ⟨fullReset a b mfs s, rfl, rfl, ⟨rfl, rfl, rfl, rfl, rfl, rfl, rfl, rfl⟩, fun k => ?_, rfl, rfl, fun m => ?_,
    fun id => ?_, ⟨rfl, rfl, rfl⟩, fun l => ?_, rfl, rfl, rfl, rfl, rfl, rfl, fun i => ?_, ⟨rfl, rfl, rfl⟩, rfl⟩
  · simp [fullReset, State.atRelease]
  · simp [fullReset, State.atRelease, Station.reset]
  · cases id <;> rfl
  · simp [fullReset, State.atRelease, Lane.reset, LaneSetup.reset]
  · simp [fullReset, State.atRelease]

/-! ## The output lines -/

/-- Settles O43. -/
theorem outputLinesDriven : Obligations.OutputLinesDriven := by
  unfold Obligations.OutputLinesDriven
  intro s
  refine ⟨fun l => ⟨fun h => ?_, fun ht hm => ?_, fun ht hm => ?_⟩, fun m => ?_, ?_, Iff.rfl, ?_⟩
  · unfold jetLine
    cases hst : s.trk.st with
    | idle | homing => rfl
    | tracking => exact absurd hst h
  · have hline : jetLine s l = safeLevel s.lanes[l].setup := by simp [jetLine, ht, hm]
    rw [hline]
    generalize s.lanes[l].setup = u
    unfold safeLevel
    exact ⟨fun h => if_pos h, fun h h' => by simp [h, h'], fun h h' => by simp [h, h', inactiveLevel]⟩
  · unfold jetLine isActive
    rw [ht, hm]
    generalize s.lanes[l] = L
    cases ho : L.output with
    | active run => simp [ho, activeLevel]
    | inactive r => simp [ho, inactiveLevel]
  · rw [trigLine, Option.isSome_iff_exists]
  · simp [loaden, isTracking, and_assoc]
  · intro f rest n hq hs hn hlt
    subst hn
    simp only [rdatLine, hs, hq, if_true]
    exact frameBits_at _ _ hlt

/-! ## The reset state -/

/-- The state at power-up is one that FULL_RESET leaves. -/
theorem reset_eq_fullReset : State.reset = fullReset false false false State.reset := rfl

/-- Settles O60: what FULL_RESET leaves meets the invariants. -/
theorem resetMeetsInvariants : Obligations.ResetMeetsInvariants := by
  have hreset {P : State → Prop} (h : ∀ a b m s, P (fullReset a b m s)) : P State.reset :=
    reset_eq_fullReset ▸ h false false false State.reset
  obtain ⟨hinbound, hreceiver⟩ := hreset receiverSound_stepInvariant.fullReset
  obtain ⟨hmask, hruns⟩ := hreset maskSound_turretInvariant.fullReset
  obtain ⟨hposition, hrecords⟩ := hreset placed_turretInvariant.fullReset
  obtain ⟨huse, hreserved, hfit⟩ := hreset countsMatch_recordInvariant.fullReset
  exact ⟨hreset queuesBounded_stepInvariant.fullReset, hinbound, hreceiver, hmask, hruns, hposition, hrecords,
    hreset relations_turretInvariant.fullReset, huse, hreserved, hfit, hreset tallyBalances_recordInvariant.fullReset,
    hreset confirmQueuesMatch_recordInvariant.fullReset, rfl⟩

end Sys2Proof.Machine
end

section
/-!
PROOF. The management frames of run control, setup and banks (O6 to O15): what the owner's act is, and the REPLY around it.
-/

namespace Sys2Proof.Machine

/-! ## Taking up a frame -/

/-- A command with its frame at the head, a place for the REPLY and all that fell due taken runs its owner's act. -/
theorem exec_taken {c : Instr} {k : Kind} {mine : Byte → Bool} {act : Frame → State → State × Answer} {f : Frame}
    {before s : State} (hc : exec c before = .next (takeUp k mine act (settled before))) (hs : s = settled before)
    (h : HeadOf k f s) (hp : CanBegin s) (hm : mine (firstArg f) = true) :
    exec c before = .next (replied f (act f (keepPlace s)).2 (act f (keepPlace s)).1) := by
  subst hs
  rw [hc, takeUp_of_headOf h hm hp]

/-- An owner that answers as given leaves the state as given, in the place kept for the REPLY. -/
theorem exec_replied {c : Instr} {k : Kind} {mine : Byte → Bool} {act : Frame → State → State × Answer} {f : Frame}
    {before s u : State} {a : Answer} (hc : exec c before = .next (takeUp k mine act (settled before)))
    (hs : s = settled before) (h : HeadOf k f s) (hp : CanBegin s) (hm : mine (firstArg f) = true)
    (ha : act f (keepPlace s) = (u, a)) : exec c before = .next (replied f a u) := by
  rw [exec_taken hc hs h hp hm, ha]

theorem unlessLocked_of_unlocked {s : State} {go : State × Answer} (h : s.banks.lock = false) :
    unlessLocked s go = go := by simp [unlessLocked, h]

theorem unlessLocked_of_locked {s : State} {go : State × Answer} (h : s.banks.lock = true) :
    unlessLocked s go = (raise .lockViolation s, answer .locked) := by simp [unlessLocked, h]

theorem inIdle_of_idle {s : State} {go : State × Answer} (hl : s.banks.lock = false) (hi : s.trk.st = .idle) :
    inIdle s go = go := by rw [inIdle, unlessLocked_of_unlocked hl, if_pos hi]

theorem inIdle_of_busy {s : State} {go : State × Answer} (hl : s.banks.lock = false) (hi : s.trk.st ≠ .idle) :
    inIdle s go = (s, answer .busy) := by rw [inIdle, unlessLocked_of_unlocked hl, if_neg hi]

/-! ## Run control -/

theorem runOrderOf_eq_some (c : Byte) (o : RunOrder) : runOrderOf c = some o ↔ c.toNat =
    match o with | .start => 1 | .stop => 2 | .pauseLoad => 3 | .resumeLoad => 4 | .runReset => 5 := by
  revert c; cases o <;> decide

theorem runArg_of_order {o : RunOrder} {c : Byte} (h : runOrderOf c = some o) : runArg o c = true := by simp [runArg, h]

theorem forRunOrder_of_order {o : RunOrder} {f : Frame} {s : State} {go : State × Answer}
    (h : runOrderOf (firstArg f) = some o) : forRunOrder o f s go = go := if_pos h

/-- Settles O6. -/
theorem startDecided : Obligations.StartDecided := by
  unfold Obligations.StartDecided
  intro f before s hs hhead hw hp
  have horder : runOrderOf (firstArg f) = some .start := (runOrderOf_eq_some _ _).mpr hw
  have hexec {u : State} {a : Answer} (ha : actStart f (keepPlace s) = (u, a)) :=
    exec_replied (c := .start) rfl hs hhead hp (runArg_of_order horder) ha
  have hact := forRunOrder_of_order (s := keepPlace s) (go := if s.trk.st ≠ .idle then (keepPlace s, answer .wrongState)
    else match firstFailed s with
      | some (n, u) => (keepPlace s, { status := .badGeometry, detail := checkDetail n u })
      | none => ((keepPlace s).setTrk { s.trk with st := .homing }, answer .ok)) horder
  refine ⟨fun hst => hexec (u := keepPlace s) (hact.trans (if_pos hst)), fun hst hgood => ?_,
    fun n hst h1 h14 hbefore hbad => ?_⟩
  · refine hexec (u := (keepPlace s).setTrk { s.trk with st := .homing }) (hact.trans ?_)
    rw [if_neg (not_not.mpr hst), (firstFailed_eq_none s).mpr hgood]
    rfl
  · obtain ⟨u, hu, hdetail, hstation, hlane⟩ := firstFailed_eq_some h1 h14 hbefore hbad
    refine ⟨u, hexec (u := keepPlace s) (hact.trans ?_), hdetail, hstation, hlane⟩
    rw [if_neg (not_not.mpr hst), hu]
    rfl

/-- Settles O7. -/
theorem plainOrdersDecided : Obligations.PlainOrdersDecided := by
  unfold Obligations.PlainOrdersDecided
  intro f before s hs hp
  refine ⟨fun hhead hw => ?_, fun hhead hw => ?_, fun hhead => ?_, fun hhead => ⟨fun l hl => ?_, fun hl => ?_⟩⟩
  · have horder : runOrderOf (firstArg f) = some .pauseLoad := (runOrderOf_eq_some _ _).mpr hw
    exact exec_replied (c := .pauseLoad) (u := (keepPlace s).setLoadPause true) rfl hs hhead hp (runArg_of_order horder) (forRunOrder_of_order horder)
  · have horder : runOrderOf (firstArg f) = some .resumeLoad := (runOrderOf_eq_some _ _).mpr hw
    exact exec_replied (c := .resumeLoad) (u := (keepPlace s).setLoadPause false) rfl hs hhead hp (runArg_of_order horder) (forRunOrder_of_order horder)
  · exact exec_replied (c := .lock) (act := actLock)
      (u := (keepPlace s).setBanks { s.banks with lock := true }) rfl hs hhead hp rfl rfl
  · refine exec_replied (c := .laneEmpty) (act := actLaneEmpty) rfl hs hhead hp rfl
      (u := modLane l (fun L => { L with delivered := 0 }) (keepPlace s)) ?_
    simp only [actLaneEmpty, firstArg, (laneOf_eq_some _ l).mpr hl]
    rfl
  · refine exec_replied (c := .laneEmpty) (act := actLaneEmpty) rfl hs hhead hp rfl (u := keepPlace s) ?_
    simp only [actLaneEmpty, firstArg, (laneOf_eq_none _).mpr hl]
    rfl

/-! ## Setup frames -/

/-- Settles O8. -/
theorem geometryDecided : Obligations.GeometryDecided := by
  unfold Obligations.GeometryDecided
  intro f before s hs hhead hp hl
  have hexec {u : State} {a : Answer} (ha : actGeometry f (keepPlace s) = (u, a)) :=
    exec_replied (c := .geometry) rfl hs hhead hp rfl ha
  refine ⟨fun hst => hexec (u := keepPlace s) (inIdle_of_busy (s := keepPlace s) hl hst), fun hst mode hmode => ?_, fun hst hnone => ?_⟩
  · refine hexec (u := ((keepPlace s).setGeo (carriedGeometry f mode)).setTrk { s.trk with pos := 0 })
      ((inIdle_of_idle (s := keepPlace s) hl hst).trans ?_)
    rw [(geometryFields_eq_some f _).mpr ⟨mode, hmode, rfl⟩]
    rfl
  · refine hexec (u := keepPlace s) ((inIdle_of_idle (s := keepPlace s) hl hst).trans ?_)
    rw [eq_none_of_forall (geometryFields_eq_some f) fun g ⟨mode, hmode, _⟩ => hnone mode hmode]
    rfl

/-- Settles O10. -/
theorem laneSetupDecided : Obligations.LaneSetupDecided := by
  unfold Obligations.LaneSetupDecided
  intro f before s hs hhead hp hl
  have hexec {u : State} {a : Answer} (ha : actLaneSetup f (keepPlace s) = (u, a)) :=
    exec_replied (c := .laneSetup) rfl hs hhead hp rfl ha
  refine ⟨fun hst => hexec (u := keepPlace s) (inIdle_of_busy (s := keepPlace s) hl hst), fun hst l partner hok => ?_, fun hst hnone => ?_⟩
  · refine hexec (u := modLane l (fun L => { L with setup := carriedSetup f partner }) (keepPlace s))
      ((inIdle_of_idle (s := keepPlace s) hl hst).trans ?_)
    rw [(setupFields_eq_some f (l, carriedSetup f partner)).mpr ⟨partner, hok, rfl⟩]
    rfl
  · refine hexec (u := keepPlace s) ((inIdle_of_idle (s := keepPlace s) hl hst).trans ?_)
    rw [eq_none_of_forall (setupFields_eq_some f) fun x ⟨partner, hok, _⟩ => hnone x.1 partner hok]
    rfl

/-- Fewer than two other stations are PREC where no two of them are. -/
theorem otherPrecs_lt_two (s : State) (m : StationNo) :
    otherPrecs s m < 2 ↔ ∀ a b : StationNo, a < b → a ≠ m → b ≠ m →
      ¬ (s.stations[a].role = .prec ∧ s.stations[b].role = .prec) := by
  have hcount (p : StationNo → Bool) : (allStations.filter fun x => x != m && p x).length < 2 ↔
      ∀ a b : StationNo, a < b → a ≠ m → b ≠ m → ¬ (p a = true ∧ p b = true) := by
    revert m p
    decide
  unfold otherPrecs
  simpa using hcount fun x => s.stations[x].role == .prec

theorem stationRole_eq_some (f : Frame) (m : StationNo) (r : Role) :
    stationRole f = some (m, r) ↔ (loByte (word f 1)).toNat = m.val ∧ RoleCode (hiByte (word f 2)) r := by
  unfold stationRole
  rw [← stationOf_eq_some, ← roleOf_eq_some, firstArg]
  cases stationOf (loByte (word f 1)) <;> cases roleOf (hiByte (word f 2)) <;> simp

/-- The act accepts a STATION frame where R52's column does. -/
theorem stationAllowed_iff (f : Frame) (s : State) (m : StationNo) (r : Role) :
    StationAllowed f s m r ↔ stationRole f = some (m, r) ∧
      (stationRanges r f = true ∧ (r = .prec → otherPrecs s m < 2)) := by
  rw [stationRole_eq_some, otherPrecs_lt_two]
  unfold StationAllowed stationRanges
  by_cases hr : r = .prec
  · simp only [hr, true_implies, bne_self_eq_false, Bool.false_or, Bool.and_eq_true, decide_eq_true_eq]
    constructor
    · rintro ⟨hm, hrole, ⟨h1, h2⟩, ⟨h3, h4⟩, h5, ⟨h6, h7⟩, ⟨h8, h9⟩, h10, h11⟩
      exact ⟨⟨hm, hrole⟩, ⟨⟨⟨⟨⟨⟨⟨h1, h2⟩, h3⟩, h4⟩, h5⟩, h6⟩, h7⟩, ⟨h8, h9⟩, h10⟩, h11⟩
    · rintro ⟨⟨hm, hrole⟩, ⟨⟨⟨⟨⟨⟨⟨h1, h2⟩, h3⟩, h4⟩, h5⟩, h6⟩, h7⟩, ⟨h8, h9⟩, h10⟩, h11⟩
      exact ⟨hm, hrole, ⟨h1, h2⟩, ⟨h3, h4⟩, h5, ⟨h6, h7⟩, ⟨h8, h9⟩, h10, h11⟩
  · simp only [hr, false_implies, and_true, Bool.true_or, Bool.and_true, Bool.and_eq_true, decide_eq_true_eq, bne,
      beq_false_of_ne hr, Bool.not_false]
    constructor
    · rintro ⟨hm, hrole, ⟨h1, h2⟩, ⟨h3, h4⟩, h5, h6, h7⟩
      exact ⟨⟨hm, hrole⟩, ⟨⟨⟨⟨⟨h1, h2⟩, h3⟩, h4⟩, h5⟩, h6⟩, h7⟩
    · rintro ⟨⟨hm, hrole⟩, ⟨⟨⟨⟨⟨h1, h2⟩, h3⟩, h4⟩, h5⟩, h6⟩, h7⟩
      exact ⟨hm, hrole, ⟨h1, h2⟩, ⟨h3, h4⟩, h5, h6, h7⟩

theorem setupStation_eq (r : Role) (f : Frame) (x : Station) : setupStation r f x = carriedStation f r x := by
  have hskip : (r == .prec && loByte (word f 2) == 1) = decide (r = .prec ∧ (loByte (word f 2)).toNat = 1) := by
    have := byte_eq (loByte (word f 2)) 1 (by decide)
    rw [Bool.eq_iff_iff]
    simp [← this]
  simp only [setupStation, carriedStation, hskip]

/-- Settles O9. -/
theorem stationDecided : Obligations.StationDecided := by
  unfold Obligations.StationDecided
  intro f before s hs hhead hp hl
  have hexec {u : State} {a : Answer} (ha : actStation f (keepPlace s) = (u, a)) :=
    exec_replied (c := .station) rfl hs hhead hp rfl ha
  refine ⟨fun hst => hexec (u := keepPlace s) (inIdle_of_busy (s := keepPlace s) hl hst), fun hst m r hok => ?_, fun hst hnone => ?_⟩
  · obtain ⟨hrole, hranges⟩ := (stationAllowed_iff f (keepPlace s) m r).mp hok
    refine hexec (u := modStation m (carriedStation f r) (keepPlace s)) ((inIdle_of_idle (s := keepPlace s) hl hst).trans ?_)
    rw [hrole]
    exact (if_pos hranges).trans (by rw [funext (setupStation_eq r f)]; rfl)
  · refine hexec (u := keepPlace s) ((inIdle_of_idle (s := keepPlace s) hl hst).trans ?_)
    split
    · rfl
    · next m r hrole =>
      exact if_neg fun hranges => hnone m r ((stationAllowed_iff f (keepPlace s) m r).mpr ⟨hrole, hranges⟩)

theorem overflowAfter_eq (o : OverflowAction) (l : LaneNo) (now : Route) :
    overflowAfter o l now = designationAfter o l now := by cases o <;> rfl

/-- Settles O11. -/
theorem laneStateDecided : Obligations.LaneStateDecided := by
  unfold Obligations.LaneStateDecided
  intro f before s hs hhead hp
  have hexec {u : State} {a : Answer} (ha : actLaneState f (keepPlace s) = (u, a)) :=
    exec_replied (c := .laneState) rfl hs hhead hp rfl ha
  refine ⟨fun hnone => hexec (u := keepPlace s) ?_, fun l a o hl ha ho => ?_⟩
  · rw [actLaneState, eq_none_of_forall (laneOrderOf_eq_some f) fun x ⟨hl, ha, ho, _⟩ => hnone x.lane x.attr x.action ⟨hl, ha, ho⟩]
    rfl
  · have horder : laneOrderOf f = some { lane := l, attr := a, action := o, capacity := (word f 3).toNat } :=
      (laneOrderOf_eq_some f _).mpr ⟨hl, ha, ho, rfl⟩
    have hclear := laneClearsStations_iff s l
    refine ⟨fun hst hdis hup hmeets => hexec (u := keepPlace s) ?_, fun hok cap hcap => ?_⟩
    · have hfalse : laneClearsStations s l = false := by
        rw [← Bool.not_eq_true, hclear]
        exact hmeets
      rw [actLaneState, horder]
      exact if_pos ⟨hst, hdis, hup, hfalse⟩
    · obtain rfl := capacityWritten_unique (fitCapacity_written _ _) hcap
      refine ⟨_, rfl, hexec ?_⟩
      have hnot : ¬ (s.trk.st ≠ .idle ∧ s.lanes[l].attr = .disabled ∧ a ≠ .disabled ∧ laneClearsStations s l = false) := by
        rintro ⟨hst, hdis, hup, hfalse⟩
        obtain h | h | h | h := hok
        · exact hst h
        · exact h hdis
        · exact hup h
        · rw [hclear.mpr h] at hfalse; cases hfalse
      rw [actLaneState, horder]
      refine (if_neg hnot).trans ?_
      unfold applyLaneOrder
      dsimp only
      simp only [Bool.and_eq_true, Bool.not_eq_true', ← Bool.not_eq_true, laneFull_iff, overflowAfter_eq]
      have hflow (b : Prop) [Decidable b] (t : State) :
          (if b then raise .laneFull t else t).overflow = t.overflow := by split <;> simp
      rw [hflow]
      refine Prod.ext ?_ ?_
      · simp [keepPlace]
      · simp [answer]

end Sys2Proof.Machine
end

section
/-!
PROOF. The bank frames and the lock (O12 to O15), and the mask, event, tally and format orders (O16 to O19).
-/

namespace Sys2Proof.Machine

/-! ## The writes of the STAGING bank -/

theorem isStaging_iff (s : State) (id : BankId) : IsStaging s id ↔ id = stagingId s.banks := by
  unfold IsStaging stagingId
  cases s.banks.live <;> cases id <;> simp

theorem bankWrite_busy {s : State} (hl : s.banks.lock = false) (hu : 0 < (stagingBank s.banks).inUse) (edits : Bool)
    (write : Option (Table → Table)) : bankWrite s edits write = (s, answer .busy) := by
  unfold bankWrite
  rw [unlessLocked_of_unlocked hl, if_pos hu]

theorem bankWrite_badArg {s : State} (hl : s.banks.lock = false) (hu : (stagingBank s.banks).inUse = 0) (edits : Bool) :
    bankWrite s edits none = (s, answer .badArg) := by
  unfold bankWrite
  rw [unlessLocked_of_unlocked hl, if_neg (by omega)]

theorem bankWrite_empty {s : State} (hl : s.banks.lock = false) (hu : (stagingBank s.banks).inUse = 0)
    (he : (stagingBank s.banks).table.loaded = false) (g : Table → Table) :
    bankWrite s true (some g) = (s, answer .wrongState) := by
  unfold bankWrite
  rw [unlessLocked_of_unlocked hl, if_neg (by omega)]
  exact if_pos ⟨rfl, he⟩

theorem bankWrite_accepted {s : State} (hl : s.banks.lock = false) (hu : (stagingBank s.banks).inUse = 0) {edits : Bool}
    (he : edits = false ∨ (stagingBank s.banks).table.loaded = true) (g : Table → Table) :
    bankWrite s edits (some g) =
      (modBank (stagingId s.banks) (fun k => { k with table := g k.table }) s, answer .ok) := by
  unfold bankWrite
  rw [unlessLocked_of_unlocked hl, if_neg (by omega)]
  refine (if_neg ?_).trans ?_
  · rintro ⟨hedits, hempty⟩
    obtain he | he := he
    · rw [he] at hedits; cases hedits
    · rw [he] at hempty; cases hempty
  · unfold writeStaging stagingBank
    cases stagingId s.banks <;> rfl

theorem headerTable_eq_none {f : Frame} (h : ¬ HeaderAllowed f) : headerTable f = none :=
  eq_none_of_forall (headerTable_eq_some f) fun _ ht => h ht.1

theorem entryFields_eq_none {f : Frame} (h : ∀ i r, ¬ EntryAllowed f i r) : entryFields f = none :=
  eq_none_of_forall (entryFields_eq_some f) fun x ⟨r, hx, _⟩ => h x.1 r hx

theorem specialFields_eq_none {f : Frame} (h : ∀ c r, ¬ SpecialAllowed f c r) : specialFields f = none :=
  eq_none_of_forall (specialFields_eq_some f) fun x hx => h x.1 x.2 hx

theorem setSpecial_eq (c : SpecialClass) (r : Route) (t : Table) : setSpecial c r t = withSpecial c r t := by
  cases c <;> rfl

/-- Settles O12. -/
theorem stagingWritesRefused : Obligations.StagingWritesRefused := by
  unfold Obligations.StagingWritesRefused
  intro f before s id hs hp hl hid
  obtain rfl := (isStaging_iff s id).mp hid
  have hheader {u : State} {a : Answer} (hhead : HeadOf .bankHeader f s) (ha : actBankHeader f (keepPlace s) = (u, a)) :=
    exec_replied (c := .bankHeader) rfl hs hhead hp rfl ha
  have hentry {u : State} {a : Answer} (hhead : HeadOf .binEntry f s) (ha : actBinEntry f (keepPlace s) = (u, a)) :=
    exec_replied (c := .binEntry) rfl hs hhead hp rfl ha
  have hspecial {u : State} {a : Answer} (hhead : HeadOf .specialRoute f s)
      (ha : actSpecialRoute f (keepPlace s) = (u, a)) :=
    exec_replied (c := .specialRoute) rfl hs hhead hp rfl ha
  refine ⟨fun hu => ⟨fun hhead => ?_, fun hhead => ?_, fun hhead => ?_⟩, fun hu => ⟨fun hhead hbad => ?_,
    fun hhead hbad => ?_, fun hhead hbad => ?_, fun hempty => ⟨fun hhead ⟨i, r, hok⟩ => ?_, fun hhead ⟨c, r, hok⟩ => ?_⟩⟩⟩
  · exact hheader (u := keepPlace s) hhead (bankWrite_busy (s := keepPlace s) hl hu _ _)
  · exact hentry (u := keepPlace s) hhead (bankWrite_busy (s := keepPlace s) hl hu _ _)
  · exact hspecial (u := keepPlace s) hhead (bankWrite_busy (s := keepPlace s) hl hu _ _)
  · refine hheader (u := keepPlace s) hhead ?_
    rw [actBankHeader, headerTable_eq_none hbad]
    exact bankWrite_badArg (s := keepPlace s) hl hu _
  · refine hentry (u := keepPlace s) hhead ?_
    rw [actBinEntry, entryFields_eq_none hbad]
    exact bankWrite_badArg (s := keepPlace s) hl hu _
  · refine hspecial (u := keepPlace s) hhead ?_
    rw [actSpecialRoute, specialFields_eq_none hbad]
    exact bankWrite_badArg (s := keepPlace s) hl hu _
  · refine hentry (u := keepPlace s) hhead ?_
    rw [actBinEntry, (entryFields_eq_some f (i, _)).mpr ⟨r, hok, rfl⟩]
    exact bankWrite_empty (s := keepPlace s) hl hu hempty _
  · refine hspecial (u := keepPlace s) hhead ?_
    rw [actSpecialRoute, (specialFields_eq_some f (c, r)).mpr hok]
    exact bankWrite_empty (s := keepPlace s) hl hu hempty _

/-- The place kept for a REPLY is lost in it, also where a bank was written. -/
theorem replied_modBank_keepPlace (f : Frame) (a : Answer) (id : BankId) (g : Bank → Bank) (s : State) :
    replied f a (modBank id g (keepPlace s)) = replied f a (modBank id g s) := by cases id <;> rfl

/-- Settles O13. -/
theorem stagingWritten : Obligations.StagingWritten := by
  unfold Obligations.StagingWritten
  intro f before s id hs hp hl hid hu
  obtain rfl := (isStaging_iff s id).mp hid
  refine ⟨fun hhead hok => ?_, fun hhead hloaded i r hok => ?_, fun hhead hloaded c r hok => ?_⟩
  · rw [← replied_modBank_keepPlace]
    refine exec_replied (c := .bankHeader) (act := actBankHeader) rfl hs hhead hp rfl ?_
    rw [actBankHeader, (headerTable_eq_some f _).mpr ⟨hok, rfl⟩]
    exact bankWrite_accepted (s := keepPlace s) hl hu (.inl rfl) _
  · rw [← replied_modBank_keepPlace]
    refine exec_replied (c := .binEntry) (act := actBinEntry) rfl hs hhead hp rfl ?_
    rw [actBinEntry, (entryFields_eq_some f (i, _)).mpr ⟨r, hok, rfl⟩]
    exact bankWrite_accepted (s := keepPlace s) hl hu (.inr hloaded) _
  · rw [← replied_modBank_keepPlace]
    refine exec_replied (c := .specialRoute) (act := actSpecialRoute) rfl hs hhead hp rfl ?_
    rw [actSpecialRoute, (specialFields_eq_some f (c, r)).mpr hok, ← funext (setSpecial_eq c r)]
    exact bankWrite_accepted (s := keepPlace s) hl hu (.inr hloaded) _

theorem tableComplete_iff (t : Table) : tableComplete t = true ↔ CompleteTable t := by
  have hmem (i : Fin 24) : i ∈ allBins := by decide +revert
  simp only [tableComplete, CompleteTable, Bool.and_eq_true, List.all_eq_true, Bool.or_eq_true, decide_eq_true_eq,
    Option.isSome_iff_ne_none]
  refine and_congr_right fun _ => ⟨fun h i hi => (h i (hmem i)).resolve_left (by omega), fun h i _ => ?_⟩
  exact (Nat.lt_or_ge i.val t.nb).elim (fun hi => .inr (h i hi)) .inl

/-- A swap is a change of the bank store alone. -/
theorem swapBanks_eq (s : State) : swapBanks s = s.setBanks (swapBanks s).banks := by
  unfold swapBanks modBank
  cases stagingId s.banks <;> rfl

/-- Settles O14. -/
theorem bankSwapDecided : Obligations.BankSwapDecided := by
  unfold Obligations.BankSwapDecided
  intro f before s id hs hhead hp hl hid
  obtain rfl := (isStaging_iff s id).mp hid
  have hexec {u : State} {a : Answer} (ha : actBankSwap f (keepPlace s) = (u, a)) :=
    exec_replied (c := .bankSwap) rfl hs hhead hp rfl ha
  have hact := unlessLocked_of_unlocked (s := keepPlace s) (go := if tableComplete (stagingBank s.banks).table = true then
    (swapBanks (keepPlace s), answer .ok) else (keepPlace s, answer .incomplete)) hl
  refine ⟨fun hok => ⟨(swapBanks s).banks, ?_, rfl, rfl, ?_, ?_, fun j hj => ?_⟩, fun hbad => hexec (u := keepPlace s) ?_⟩
  · have hswap : replied f { status := .ok } (swapBanks (keepPlace s)) =
        replied f { status := .ok } (s.setBanks (swapBanks s).banks) := by
      unfold swapBanks modBank
      cases hst : stagingId s.banks <;> simp [replied, keepPlace, hst]
    rw [← hswap]
    exact hexec (hact.trans (if_pos ((tableComplete_iff _).mpr hok)))
  · unfold swapBanks modBank
    cases stagingId s.banks <;> rfl
  · rw [swapBanks_at, if_pos rfl]
  · rw [swapBanks_at, if_neg hj]
  · exact hact.trans (if_neg fun h => hbad ((tableComplete_iff _).mp h))

/-- Settles O15. -/
theorem lockedRefusals : Obligations.LockedRefusals := by
  unfold Obligations.LockedRefusals
  intro c k f before s hs hk hc hhead hp hl
  have hlocked (go : State × Answer) := unlessLocked_of_locked (s := keepPlace s) (go := go) hl
  cases c with
  | bankHeader => obtain rfl := Option.some.inj hc; exact exec_replied (act := actBankHeader) rfl hs hhead hp rfl (hlocked _)
  | binEntry => obtain rfl := Option.some.inj hc; exact exec_replied (act := actBinEntry) rfl hs hhead hp rfl (hlocked _)
  | specialRoute => obtain rfl := Option.some.inj hc; exact exec_replied (act := actSpecialRoute) rfl hs hhead hp rfl (hlocked _)
  | bankSwap => obtain rfl := Option.some.inj hc; exact exec_replied (act := actBankSwap) rfl hs hhead hp rfl (hlocked _)
  | geometry => obtain rfl := Option.some.inj hc; exact exec_replied (act := actGeometry) rfl hs hhead hp rfl (hlocked _)
  | station => obtain rfl := Option.some.inj hc; exact exec_replied (act := actStation) rfl hs hhead hp rfl (hlocked _)
  | laneSetup => obtain rfl := Option.some.inj hc; exact exec_replied (act := actLaneSetup) rfl hs hhead hp rfl (hlocked _)
  | tallyClear => obtain rfl := Option.some.inj hc; exact exec_replied (act := actTallyClear) rfl hs hhead hp rfl (hlocked _)
  | formatSelect => obtain rfl := Option.some.inj hc; exact exec_replied (act := actFormatSelect) rfl hs hhead hp rfl (hlocked _)
  | _ =>
    simp only [Instr.frameKind, Option.some.injEq, reduceCtorEq] at hc
    all_goals (subst hc; simp at hk)

/-! ## Mask, events, tally and format -/

theorem maskOrderOf_eq_some (c : Byte) (o : MaskOrder) : maskOrderOf c = some o ↔ c.toNat =
    match o with | .force => 1 | .recover => 2 | .mode => 3 := by
  revert c; cases o <;> decide

theorem eventOrderOf_eq_some (c : Byte) (o : EventOrder) : eventOrderOf c = some o ↔ c.toNat =
    match o with | .enable => 1 | .clear => 2 := by
  revert c; cases o <;> decide

theorem recoveryAutoOf_eq (c : Byte) : recoveryAutoOf c = if c.toNat ≤ 1 then some (c.toNat == 0) else none := by
  revert c; decide

/-- Settles O16. -/
theorem maskOrdersDecided : Obligations.MaskOrdersDecided := by
  unfold Obligations.MaskOrdersDecided
  intro f before s hs hhead hp
  have harg (o : MaskOrder) (h : maskOrderOf (firstArg f) = some o) : maskArg o (firstArg f) = true := by simp [maskArg, h]
  refine ⟨fun hw => ?_, fun hw => ?_, fun hw => ?_⟩
  · have horder : maskOrderOf (firstArg f) = some .force := (maskOrderOf_eq_some _ _).mpr hw
    have hexec {u : State} (hu : addReason false false true (keepPlace s) = u) :
        exec .force before = .next (replied f { status := .ok } u) :=
      exec_replied (act := actForce) rfl hs hhead hp (harg _ horder) ((if_pos horder).trans (by rw [hu]; rfl))
    refine ⟨fun hm => ?_, fun hm => ?_⟩
    · refine hexec (u := (keepPlace s).setMask { s.mask with forced := true, clean := 0 }) ((if_pos hm).trans ?_)
      simp
    · exact hexec (if_neg (by simpa using hm))
  · have horder : maskOrderOf (firstArg f) = some .recover := (maskOrderOf_eq_some _ _).mpr hw
    have hexec {u : State} {a : Answer} (ha : (if s.trk.st = .tracking ∧ s.mask.masked = true then
        (exitMask (keepPlace s), answer .ok) else (keepPlace s, answer .wrongState)) = (u, a)) :
        exec .recover before = .next (replied f a u) :=
      exec_replied (act := actRecover) rfl hs hhead hp (harg _ horder) ((if_pos horder).trans ha)
    refine ⟨fun ht hm => hexec (if_pos ⟨ht, hm⟩), fun h => hexec (u := keepPlace s) (if_neg fun ⟨ht, hm⟩ => ?_)⟩
    obtain h | h := h
    · exact h ht
    · rw [h] at hm; cases hm
  · have horder : maskOrderOf (firstArg f) = some .mode := (maskOrderOf_eq_some _ _).mpr hw
    have hexec {u : State} {a : Answer} (ha : actMode f (keepPlace s) = (u, a)) :=
      exec_replied (c := .mode) rfl hs hhead hp (harg _ horder) ha
    have hact : actMode f (keepPlace s) = _ := if_pos horder
    rw [recoveryAutoOf_eq] at hact
    refine ⟨fun hauto h1 h15 => ?_, fun hbad => hexec (u := keepPlace s) (hact.trans ?_)⟩
    · refine hexec (u := (keepPlace s).setMask { s.mask with auto := _, n := _ }) (hact.trans ?_)
      rw [if_pos hauto]
      exact if_pos ⟨h1, h15⟩
    · by_cases hauto : (hiByte (word f 2)).toNat ≤ 1
      · rw [if_pos hauto]
        exact if_neg (by omega)
      · rw [if_neg hauto]
        rfl

theorem safeIsActive_iff (x : LaneSetup) : safeIsActive x = true ↔ safeLevel x = activeLevel x := by
  unfold safeIsActive
  rw [beq_iff_eq]

theorem restFrom_of_pos {x : LaneSetup} (h : 0 < x.restDist) (f : Travel) : restFrom x f = .since f :=
  if_neg (by omega)

theorem restFrom_of_zero {x : LaneSetup} (h : x.restDist = 0) (f : Travel) : restFrom x f = .rested := if_pos h

/-- What a mask entry makes of a lane's output in TRACKING. -/
theorem maskEntryOn_output (f : Travel) (L : Lane) :
    (safeLevel L.setup = activeLevel L.setup → (maskEntryOn f L).output = .inactive .cleared) ∧
    (safeLevel L.setup ≠ activeLevel L.setup →
      (isActive L = false → (maskEntryOn f L).output = L.output) ∧
      (isActive L = true → (maskEntryOn f L).output = .inactive (restFrom L.setup f))) := by
  refine ⟨fun h => ?_, fun h => ?_⟩
  · rw [maskEntryOn, if_pos ((safeIsActive_iff _).mpr h)]
  · rw [maskEntryOn, if_neg (mt (safeIsActive_iff _).mp h), isActive]
    cases h : L.output <;> simp [h]

/-- What a mask exit makes of a lane's output in TRACKING. -/
theorem maskExitOn_output (f : Travel) (L : Lane) :
    (safeLevel L.setup ≠ activeLevel L.setup → (maskExitOn f L).output = L.output) ∧
    (safeLevel L.setup = activeLevel L.setup → (maskExitOn f L).output = .inactive (restFrom L.setup f)) := by
  refine ⟨fun h => ?_, fun h => ?_⟩
  · rw [maskExitOn, if_neg (mt (safeIsActive_iff _).mp h)]
  · rw [maskExitOn, if_pos ((safeIsActive_iff _).mpr h)]

/-- In TRACKING each lane takes the entry or the exit. -/
theorem tracked_lane {s : State} (h : s.trk.st = .tracking) (g : Lane → Lane) (l : LaneNo) :
    (if isTracking s then mapLanes g s else s).lanes[l] = g s.lanes[l] := by simp [isTracking, h, mapLanes]

/-- Elsewhere no lane does. -/
theorem untracked_lane {s : State} (h : s.trk.st ≠ .tracking) (g : Lane → Lane) (l : LaneNo) :
    (if isTracking s then mapLanes g s else s).lanes[l] = s.lanes[l] := by simp [isTracking, h]

theorem tracked_eq (g : Lane → Lane) (s : State) :
    (if isTracking s then mapLanes g s else s) = s.setLanes (if isTracking s then mapLanes g s else s).lanes := by
  split <;> rfl

/-- Settles O17. -/
theorem maskEntryAndExit : Obligations.MaskEntryAndExit := by
  unfold Obligations.MaskEntryAndExit
  intro s
  refine ⟨⟨_, rfl, tracked_eq _ _, fun l => ?_⟩, ⟨_, rfl, tracked_eq _ _, fun l => ?_⟩⟩
  · obtain ⟨hsame, hother⟩ := maskEntryOn_output s.trk.travel s.lanes[l]
    by_cases ht : s.trk.st = .tracking
    · rw [tracked_lane (s := s.setMask { s.mask with masked := true }) ht]
      refine ⟨maskEntryOn_eq _ _, fun h => absurd ht h, fun _ => hsame, fun _ h => ⟨(hother h).1, fun ha hd => ?_, fun ha hd => ?_⟩⟩
      · exact ((hother h).2 ha).trans (by rw [restFrom_of_pos hd])
      · exact ((hother h).2 ha).trans (by rw [restFrom_of_zero hd])
    · rw [untracked_lane (s := s.setMask { s.mask with masked := true }) ht]
      exact ⟨rfl, fun _ => rfl, fun h => absurd h ht, fun h => absurd h ht⟩
  · obtain ⟨hother, hsame⟩ := maskExitOn_output s.trk.travel s.lanes[l]
    by_cases ht : s.trk.st = .tracking
    · rw [tracked_lane (s := s.setMask (liveMask s.mask)) ht]
      refine ⟨maskExitOn_eq _ _, fun h => hother (h.resolve_left fun h => h ht), fun _ h => ⟨fun hd => ?_, fun hd => ?_⟩⟩
      · exact (hsame h).trans (by rw [restFrom_of_pos hd])
      · exact (hsame h).trans (by rw [restFrom_of_zero hd])
    · rw [untracked_lane (s := s.setMask (liveMask s.mask)) ht]
      exact ⟨rfl, fun _ => rfl, fun h => absurd h ht⟩

/-- Settles O18. -/
theorem eventControlDecided : Obligations.EventControlDecided := by
  unfold Obligations.EventControlDecided
  intro f before s hs hhead hp
  have harg (o : EventOrder) (h : eventOrderOf (firstArg f) = some o) : eventArg o (firstArg f) = true := by
    simp [eventArg, h]
  have hact (o : EventOrder) (h : eventOrderOf (firstArg f) = some o) (go : BitVec 14 → State) :
      forEventOrder o f (keepPlace s) go = if (word f 2).toNat < 16384 then (go ((word f 2).setWidth 14), answer .ok)
        else (keepPlace s, answer .badArg) := by
    rw [forEventOrder, if_pos h, flagSetOf_eq]
    by_cases hw : (word f 2).toNat < 16384
    · simp only [if_pos hw]
    · simp only [if_neg hw]
  refine ⟨fun hw => ?_, fun hw => ?_⟩
  · have horder : eventOrderOf (firstArg f) = some .enable := (eventOrderOf_eq_some _ _).mpr hw
    have hexec {u : State} {a : Answer} (ha : actEnable f (keepPlace s) = (u, a)) :=
      exec_replied (c := .enable) rfl hs hhead hp (harg _ horder) ha
    exact ⟨fun h => hexec (u := (keepPlace s).setEvents { s.events with enables := (word f 2).setWidth 14 })
        ((hact _ horder _).trans (if_pos h)),
      fun h => hexec (u := keepPlace s) ((hact _ horder _).trans (if_neg (by omega)))⟩
  · have horder : eventOrderOf (firstArg f) = some .clear := (eventOrderOf_eq_some _ _).mpr hw
    have hexec {u : State} {a : Answer} (ha : actClear f (keepPlace s) = (u, a)) :=
      exec_replied (c := .clear) rfl hs hhead hp (harg _ horder) ha
    exact ⟨fun h => hexec (u := (keepPlace s).setEvents
        { s.events with flags := s.events.flags &&& ~~~ ((word f 2).setWidth 14) }) ((hact _ horder _).trans (if_pos h)),
      fun h => hexec (u := keepPlace s) ((hact _ horder _).trans (if_neg (by omega)))⟩

/-- The cleared tally: LOADED counts the records, and every other count is 0. -/
theorem clearedTally_at (n : Nat) : ((Vector.replicate 49 0).set tallyLoaded n)[tallyLoaded] = n ∧
    ∀ i : Fin 49, i ≠ tallyLoaded → ((Vector.replicate 49 0).set tallyLoaded n)[i] = 0 := by
  refine ⟨by simp, fun i hi => ?_⟩
  rw [Fin.getElem_fin, Vector.getElem_set_ne _ _ (fun h => hi (Fin.ext h.symm))]
  simp

/-- Settles O19. -/
theorem tallyClearAndFormatSelectDecided : Obligations.TallyClearAndFormatSelectDecided := by
  unfold Obligations.TallyClearAndFormatSelectDecided
  intro f before s hs hp hl
  refine ⟨fun hhead => ?_, fun hhead => ?_⟩
  · obtain ⟨hloaded, hrest⟩ := clearedTally_at (liveRecords s)
    refine ⟨(Vector.replicate 49 0).set tallyLoaded (liveRecords s), exec_replied (c := .tallyClear) (act := actTallyClear)
      (u := (keepPlace s).setTally ((Vector.replicate 49 0).set tallyLoaded (liveRecords s))) rfl hs hhead hp rfl
      (unlessLocked_of_unlocked (s := keepPlace s) hl), hloaded.trans (liveRecords_eq s).symm, hrest⟩
  · have hexec {u : State} {a : Answer} (ha : actFormatSelect f (keepPlace s) = (u, a)) :=
      exec_replied (c := .formatSelect) rfl hs hhead hp rfl ha
    have hact : actFormatSelect f (keepPlace s) = _ := unlessLocked_of_unlocked (s := keepPlace s) hl
    have hone : firstArg f = 1 ↔ (loByte (word f 1)).toNat = 1 := byte_eq _ 1 (by decide)
    have htwo : firstArg f = 2 ↔ (loByte (word f 1)).toNat = 2 := byte_eq _ 2 (by decide)
    refine ⟨fun hm => hexec (u := keepPlace s) (hact.trans (if_pos hm)), fun hm => ⟨fun h => ?_, fun h => ?_⟩⟩
    · have hflag : ((loByte (word f 1)).toNat == 2) = (firstArg f == 2) := by
        rw [Bool.eq_iff_iff, beq_iff_eq, beq_iff_eq, htwo]
      rw [hflag]
      refine hexec (u := (keepPlace s).setReport { (keepPlace s).report with formatTwo := firstArg f == 2, formatMark := true })
        (hact.trans ((if_neg (by simp [hm])).trans (if_pos ?_)))
      rwa [hone, htwo]
    · refine hexec (u := keepPlace s) (hact.trans ((if_neg (by simp [hm])).trans (if_neg ?_)))
      rw [hone, htwo]
      omega

end Sys2Proof.Machine
end

section
/-!
PROOF. The words of outbound frames and of QUERY replies: the fields in their encodings (O48), and the QUERY orders (O20, O21).
-/

namespace Sys2Proof.Machine

/-! ## Bytes and words -/

theorem wordOf_toNat (h l : Byte) : (wordOf h l).toNat = h.toNat * 256 + l.toNat := by
  have hl : l.toNat < 2 ^ 8 := l.isLt
  rw [wordOf, BitVec.toNat_append, ← Nat.shiftLeft_add_eq_or_of_lt hl, Nat.shiftLeft_eq]

/-- A word of two numbers is the word of their bytes. -/
theorem bytes_eq (h l : Nat) : bytes h l = wordOf (BitVec.ofNat 8 h) (BitVec.ofNat 8 l) := by
  apply BitVec.eq_of_toNat_eq
  rw [wordOf_toNat, bytes, BitVec.toNat_ofNat, BitVec.toNat_ofNat, BitVec.toNat_ofNat]
  omega

/-- A word of two bytes, given that they are the bytes of two numbers. -/
theorem wordOf_eq_bytes {a b : Byte} {h l : Nat} (ha : a = BitVec.ofNat 8 h) (hb : b = BitVec.ofNat 8 l) :
    wordOf a b = bytes h l := by rw [bytes_eq, ha, hb]

theorem byte_ofNat_toNat (b : Byte) : b = BitVec.ofNat 8 b.toNat := by simp

theorem hiByte_wordOf (h l : Byte) : hiByte (wordOf h l) = h := by
  have hl : l.toNat < 256 := l.isLt
  have hw := wordOf_toNat h l
  apply BitVec.eq_of_toNat_eq
  rw [hiByte, BitVec.extractLsb'_toNat, Nat.shiftRight_eq_div_pow, hw]
  have hh : h.toNat < 256 := h.isLt
  omega

theorem loByte_wordOf (h l : Byte) : loByte (wordOf h l) = l := by
  have hl : l.toNat < 256 := l.isLt
  have hw := wordOf_toNat h l
  apply BitVec.eq_of_toNat_eq
  rw [loByte, BitVec.extractLsb'_toNat, Nat.shiftRight_eq_div_pow, hw]
  omega

theorem hiWord_append_loWord (d : BitVec 32) : hiWord d ++ loWord d = d := by
  have hd : d.toNat < 4294967296 := d.isLt
  have hlo : (loWord d).toNat < 2 ^ 16 := (loWord d).isLt
  apply BitVec.eq_of_toNat_eq
  rw [BitVec.toNat_append, ← Nat.shiftLeft_add_eq_or_of_lt hlo, Nat.shiftLeft_eq]
  simp only [hiWord, loWord, BitVec.extractLsb'_toNat, Nat.shiftRight_eq_div_pow]
  omega

/-- Eight conditions as the bits of a byte, from bit 0 up. -/
theorem flagByte_eq (a b c d e f g h : Bool) :
    bitAt 0 a ||| bitAt 1 b ||| bitAt 2 c ||| bitAt 3 d ||| bitAt 4 e ||| bitAt 5 f ||| bitAt 6 g ||| bitAt 7 h =
      BitVec.ofNat 8 (a.toNat + 2 * b.toNat + 4 * c.toNat + 8 * d.toNat + 16 * e.toNat + 32 * f.toNat + 64 * g.toNat +
        128 * h.toNat) := by
  revert a b c d e f g h
  decide

/-! ## Fields of a record -/

theorem verdictOf_eq (p : Part) : verdictOf p = (standing p.st).verdict := by
  unfold verdictOf
  cases p.st <;> rfl

theorem targetOf_eq (p : Part) : targetOf p = (standing p.st).target := by
  unfold targetOf
  cases p.st <;> rfl

theorem strandOf_eq (p : Part) : strandOf p = (standing p.st).reason := by
  unfold strandOf
  cases p.st <;> rfl

theorem partStateByte_eq (x : PartState) : partStateByte x = BitVec.ofNat 8 (standing x).code := by
  cases x <;> rfl

theorem bankByte_eq (id : BankId) : bankByte id = BitVec.ofNat 8 (match id with | .a => 0 | .b => 1) := by
  cases id <;> rfl

theorem classWord_eq (p : Part) : classWord p = classCodes (standing p.st).verdict := by
  rw [classWord, verdictOf_eq]
  cases (standing p.st).verdict with
  | none => exact wordOf_eq_bytes rfl rfl
  | some v => cases v <;> exact wordOf_eq_bytes rfl rfl

theorem targetWord_eq (p : Part) : targetWord p = targetCodes (standing p.st).target := by
  rw [targetWord, targetOf_eq]
  cases (standing p.st).target with
  | none => exact wordOf_eq_bytes rfl rfl
  | some t => exact wordOf_eq_bytes rfl (by cases t.kind <;> rfl)

theorem reasonByte_eq (p : Part) : reasonByte p = BitVec.ofNat 8 (reasonCode (standing p.st).reason) := by
  rw [reasonByte, strandOf_eq]
  cases (standing p.st).reason with
  | none => rfl
  | some why => cases why <;> rfl

theorem carriedDeviation_eq (p : Part) :
    (verdictOf p).bind deviationIn = carriedDeviation (standing p.st).verdict := by
  rw [verdictOf_eq]
  cases (standing p.st).verdict with
  | none => rfl
  | some v => cases v <;> rfl

theorem dWords_eq (p : Part) : dWords p = deviationCodes (standing p.st).verdict := by
  unfold dWords deviationCodes
  rw [carriedDeviation_eq]
  cases carriedDeviation (standing p.st).verdict <;> rfl

theorem verdictFlags_eq (p : Part) : ∃ a b : Bool, verdictFlags p = bitAt 0 a ||| bitAt 1 b ∧
    deviationFlags (standing p.st).verdict = a.toNat + 2 * b.toNat := by
  unfold verdictFlags deviationFlags
  rw [carriedDeviation_eq]
  cases carriedDeviation (standing p.st).verdict with
  | none => exact ⟨false, false, rfl, rfl⟩
  | some x => exact ⟨x.clamped, x.tnone, rfl, rfl⟩

/-- The flag byte of a PART report; a POCKET reply has its two deviation bits alone. -/
theorem partFlags_eq (p : Part) (purged two : Bool) : verdictFlags p ||| bitAt 2 purged ||| bitAt 7 two =
    BitVec.ofNat 8 (deviationFlags (standing p.st).verdict + 4 * purged.toNat + 128 * two.toNat) := by
  obtain ⟨a, b, hbits, hsum⟩ := verdictFlags_eq p
  rw [hbits, hsum]
  clear hbits hsum
  revert a b purged two
  decide

theorem pocketFlags_eq (p : Part) : verdictFlags p = BitVec.ofNat 8 (deviationFlags (standing p.st).verdict) := by
  simpa [bitAt] using partFlags_eq p false false

theorem readingWords_eq (overload : Bool) (range : BitVec 3) (n : BitVec 24) (temp : Option Int) :
    [wordOf (rangeByte overload range) (n.extractLsb' 16 8), n.extractLsb' 0 16, tempWord temp] =
      readingCodes overload range n temp := by
  have hrange : rangeByte overload range = BitVec.ofNat 8 (128 * overload.toNat + range.toNat) := by
    revert overload range
    decide
  have hn : n.toNat < 16777216 := n.isLt
  have hhi : n.extractLsb' 16 8 = BitVec.ofNat 8 (n.toNat / 65536) := by
    apply BitVec.eq_of_toNat_eq
    rw [BitVec.extractLsb'_toNat, Nat.shiftRight_eq_div_pow, BitVec.toNat_ofNat]
  have hlo : n.extractLsb' 0 16 = n.setWidth 16 := by
    apply BitVec.eq_of_toNat_eq
    rw [BitVec.extractLsb'_toNat, Nat.shiftRight_zero, BitVec.toNat_setWidth]
  have htemp : tempWord temp = tempCode temp := by cases temp <;> rfl
  rw [readingCodes, wordOf_eq_bytes hrange hhi, hlo, htemp]

theorem readingGroup_eq (g : StationNo × Slot) : readingGroup g = groupCodes g.1 g.2 := by
  obtain ⟨m, x⟩ := g
  cases x with
  | reading q r => exact congrArg₂ List.cons (wordOf_eq_bytes rfl rfl) (readingWords_eq _ _ _ _)
  | waiting => exact congrArg (List.cons · _) (wordOf_eq_bytes rfl rfl)
  | outstanding q => exact congrArg (List.cons · _) (wordOf_eq_bytes rfl rfl)
  | contact q st => exact congrArg (List.cons · _) (wordOf_eq_bytes rfl rfl)
  | expired q => exact congrArg (List.cons · _) (wordOf_eq_bytes rfl rfl)
  | skipped => exact congrArg (List.cons · _) (wordOf_eq_bytes rfl rfl)

theorem readingGroup_length (g : StationNo × Slot) : (readingGroup g).length = 4 := by
  obtain ⟨m, x⟩ := g
  cases x <;> rfl

/-! ## Outbound frames (O48) -/

theorem frameOf_sum (c : Byte) (inner : List Word16) : wordSum (frameOf c inner) = 0 := by
  unfold frameOf
  rw [wordSum_append]
  simp

theorem frameOf_eq (c : Byte) (inner : List Word16) : ∃ check,
    frameOf c inner = wordOf c (BitVec.ofNat 8 (inner.length + 2)) :: (inner ++ [check]) := ⟨_, rfl⟩

theorem frameOf_code (c : Byte) (inner : List Word16) : frameCode (frameOf c inner) = c := hiByte_wordOf _ _

theorem frameOf_length (c : Byte) (inner : List Word16) : (frameOf c inner).length = inner.length + 2 := by
  simp [frameOf]

theorem frameOf_declared (c : Byte) {inner : List Word16} (h : inner.length + 2 < 256) :
    declaredLength (frameOf c inner) = inner.length + 2 := by
  have hlo : loByte (word (frameOf c inner) 0) = _ := loByte_wordOf c (BitVec.ofNat 8 (inner.length + 2))
  rw [declaredLength, hlo, BitVec.toNat_ofNat, Nat.mod_eq_of_lt h]

theorem statusByte_eq (x : Status) : statusByte x = BitVec.ofNat 8 (statusNumber x) := by cases x <;> rfl

theorem outcomeByte_eq (o : OutcomeKind) :
    outcomeByte o = BitVec.ofNat 8 (match o with | .delivered => 0 | .dumped => 1 | .unsorted => 2) := by
  cases o <;> rfl

/-- The inner words of format 2 beyond those of format 1. -/
theorem partWords_length (r : PartReport) :
    (partWords r).length = if r.formatTwo then 11 + 4 * r.readings.length else 9 := by
  have hd : (dWords r.part).length = 2 := by
    unfold dWords
    split <;> rfl
  unfold partWords
  split
  · simp [words32, hd, List.length_flatMap, readingGroup_length]
    omega
  · rfl

/-- Settles O48. -/
theorem outboundFramesWellFormed : Obligations.OutboundFramesWellFormed := by
  unfold Obligations.OutboundFramesWellFormed
  refine ⟨fun o => ?_, fun flags => ⟨rfl, frameOf_code _ _, frameOf_declared _ (by simp), rfl⟩, fun tag kind a ha => ?_,
    fun r x hx => ?_⟩
  · cases o <;> exact frameOf_sum _ _
  · have hlen : (wordOf tag kind :: wordOf (statusByte a.status) a.detail :: a.data).length + 2 = 4 + a.data.length := by
      simp only [List.length_cons]
      omega
    refine ⟨(frameOf_length _ _).trans hlen, frameOf_code _ _, (frameOf_declared _ (by omega)).trans hlen,
      wordOf_eq_bytes (byte_ofNat_toNat _) (byte_ofNat_toNat _), wordOf_eq_bytes (statusByte_eq _) (byte_ofNat_toNat _), _, rfl⟩
  · subst hx
    have hlen := partWords_length r
    refine ⟨frameOf_code _ _, wordOf_eq_bytes (outcomeByte_eq _) rfl, hiWord_append_loWord _, rfl, hiWord_append_loWord _,
      classWord_eq _, targetWord_eq _, wordOf_eq_bytes (reasonByte_eq _) (partFlags_eq _ _ _), fun h => ?_, fun h => ⟨?_, fun h2 => ?_⟩⟩
    · rw [h] at hlen
      exact ⟨(frameOf_length _ _).trans (by rw [hlen]; rfl), (frameOf_declared _ (by rw [hlen]; simp)).trans (by rw [hlen]; rfl)⟩
    · obtain ⟨check, hframe⟩ := frameOf_eq 0x41 (partWords r)
      refine ⟨check, ?_⟩
      rw [outWords, hframe, ← dWords_eq, ← funext readingGroup_eq]
      simp [partWords, words32, h]
    · rw [if_pos h] at hlen
      exact ⟨(frameOf_length _ _).trans (by omega), (frameOf_declared _ (by omega)).trans (by omega)⟩

end Sys2Proof.Machine
end

section
/-!
PROOF. The QUERY orders (O20, O21): the data of each reply, in the encodings of R225.
-/

namespace Sys2Proof.Machine

theorem selectorOf_eq_some (c : Byte) (x : Selector) : selectorOf c = some x ↔ c.toNat =
    match x with | .status => 1 | .pocket => 2 | .bankEntry => 3 | .lane => 4 | .tally => 5 | .counters => 6 := by
  revert c; cases x <;> decide

theorem queryArg_of_selector {x : Selector} {c : Byte} (h : selectorOf c = some x) : queryArg x c = true := by
  simp [queryArg, h]

theorem forSelector_of_selector {x : Selector} {f : Frame} {s : State} {go : State × Answer}
    (h : selectorOf (firstArg f) = some x) : forSelector x f s go = go := if_pos h

/-- An answer with data, the data written out. -/
theorem exec_answered {c : Instr} {f : Frame} {before u : State} {ws ws' : List Word16}
    (h : exec c before = .next (replied f (answerData ws) u)) (hws : ws = ws') :
    exec c before = .next (replied f { status := .ok, data := ws' } u) := hws ▸ h

/-! ## STATUS, TALLY and COUNTERS -/

theorem statusWords_eq (s : State) : statusWords s =
    [bytes (match s.trk.st with | .idle => 0 | .homing => 1 | .tracking => 2)
      (s.mask.masked.toNat + 2 * s.mask.slip.toNat + 4 * s.mask.reverse.toNat + 8 * s.mask.forced.toNat +
        16 * (!s.mask.auto).toNat + 32 * s.loadPause.toNat + 64 * s.banks.lock.toNat + 128 * s.report.formatMark.toNat),
     BitVec.ofNat 16 s.trk.pos, bytes s.mask.clean s.mask.n,
     bytes (match s.banks.live with | .a => 0 | .b => 1)
      (s.banks.a.table.loaded.toNat + 2 * s.banks.b.table.loaded.toNat + 16 * (if s.report.formatTwo then 2 else 1)),
     bytes s.banks.a.inUse s.banks.b.inUse, s.banks.generation, s.events.flags.setWidth 16,
     bytes (s.inbound.length - 1) s.report.queue.length] := by
  have htracker : trackerStateByte s.trk.st =
      BitVec.ofNat 8 (match s.trk.st with | .idle => 0 | .homing => 1 | .tracking => 2) := by cases s.trk.st <;> rfl
  have hbanks (a b two : Bool) : bitAt 0 a ||| bitAt 1 b ||| (if two then (0x20 : Byte) else 0x10) =
      BitVec.ofNat 8 (a.toNat + 2 * b.toNat + 16 * (if two then 2 else 1)) := by
    revert a b two
    decide
  rw [statusWords, wordOf_eq_bytes htracker (flagByte_eq _ _ _ _ _ _ _ _), wordOf_eq_bytes rfl rfl,
    wordOf_eq_bytes (bankByte_eq _) (hbanks _ _ _), wordOf_eq_bytes rfl rfl, wordOf_eq_bytes rfl rfl] <;> rfl

/-- A stretch of a list, read place by place. -/
theorem take_drop_eq_map {α : Type} (d : α) (xs : List α) (i n : Nat) (h : i + n ≤ xs.length) :
    (xs.drop i).take n = (List.range n).map fun j => xs.getD (i + j) d := by
  apply List.ext_getElem
  · rw [List.length_take, List.length_drop, List.length_map, List.length_range]
    omega
  · intro j hj hj'
    have hjn : j < n := by simpa using hj'
    rw [List.getElem_take, List.getElem_drop, List.getElem_map, List.getElem_range,
      List.getD_eq_getElem _ _ (by omega)]

theorem tallyWords_eq (s : State) {first n : Nat} (h : first + n ≤ 49) : tallyWords s first n =
    (List.range n).flatMap fun i => words32 (BitVec.ofNat 32 (s.tally.toList.getD (first + i) 0)) := by
  rw [tallyWords, take_drop_eq_map 0 _ _ _ (by simpa using h), List.flatMap_map]

/-- Settles O20. -/
theorem queryStatusAndCountsAnswered : Obligations.QueryStatusAndCountsAnswered := by
  unfold Obligations.QueryStatusAndCountsAnswered
  intro f before s hs hhead hp
  refine ⟨fun hw => ?_, fun hw => ?_, fun hw => ?_⟩
  · have hsel : selectorOf (firstArg f) = some .status := (selectorOf_eq_some _ _).mpr hw
    exact exec_answered (u := keepPlace s) (exec_replied (c := .queryStatus) (act := actQueryStatus) rfl hs hhead hp
      (queryArg_of_selector hsel) (forSelector_of_selector hsel)) (statusWords_eq s)
  · have hsel : selectorOf (firstArg f) = some .tally := (selectorOf_eq_some _ _).mpr hw
    have hexec {a : Answer} (ha : actQueryTally f (keepPlace s) = (keepPlace s, a)) :=
      exec_replied (c := .queryTally) (u := keepPlace s) rfl hs hhead hp (queryArg_of_selector hsel) ha
    have hact : actQueryTally f (keepPlace s) = _ := forSelector_of_selector hsel
    refine ⟨fun hfirst hcount n hn => ?_, fun hbad => ?_⟩
    · rw [← tallyWords_eq s (by omega), hn]
      exact hexec (hact.trans (if_pos ⟨hfirst, by omega⟩))
    · exact hexec (hact.trans (if_neg (by omega)))
  · have hsel : selectorOf (firstArg f) = some .counters := (selectorOf_eq_some _ _).mpr hw
    exact exec_replied (c := .queryCounters) (act := actQueryCounters) (u := keepPlace s) rfl hs hhead hp
      (queryArg_of_selector hsel) (forSelector_of_selector hsel)

/-! ## POCKET -/

theorem pocketWords_live {s : State} {k : PocketNo} {p : Part} (h : s.ring[k] = some p) {x : Standing}
    (hx : x = standing p.st) : pocketWords s k =
      [bytes x.code (match p.bank with | .a => 0 | .b => 1)] ++ words32 p.serial ++ [p.generation] ++ words32 p.lot ++
        [classCodes x.verdict] ++ deviationCodes x.verdict ++
        [targetCodes x.target, bytes (reasonCode x.reason) (deviationFlags x.verdict)] := by
  subst hx
  rw [pocketWords, h]
  dsimp only
  rw [wordOf_eq_bytes (partStateByte_eq _) (bankByte_eq _), classWord_eq, dWords_eq, targetWord_eq,
    wordOf_eq_bytes (reasonByte_eq _) (pocketFlags_eq _)] <;> rfl

theorem pocketWords_free {s : State} {k : PocketNo} (h : s.ring[k] = none) :
    pocketWords s k = [bytes 0 255, 0, 0, Config.absentGeneration s.choice] ++ words32 (Config.absentLot s.choice) ++
      [bytes 255 255, 0x8000, 0, bytes 255 255, bytes 255 0] := by
  rw [pocketWords, h]
  rfl

/-- The first two words of a slot's reply, given as bytes. -/
theorem SlotReply.of_words {x : Option Slot} {a b a' b' : Word16} {ws : List Word16} (h : SlotReply x ([a', b'] ++ ws))
    (ha : a = a') (hb : b = b') : SlotReply x ([a, b] ++ ws) := by
  subst ha hb
  exact h

/-- The words of a slot are words that its POCKET reply may carry. -/
theorem slotWords_reply (c : Nat) (x : Option Slot) : SlotReply x (slotWords c x) := by
  have hstatus (st : ContactStatus) :
      contactStatusByte st = BitVec.ofNat 8 (match st with | .ok => 0 | .opened => 1 | .shorted => 2) := by
    cases st <;> rfl
  have hnumber (n : Nat) (b : Byte) : wordOf (BitVec.ofNat 8 n) b = bytes n b.toNat :=
    wordOf_eq_bytes rfl (byte_ofNat_toNat b)
  cases x with
  | none => exact .absent
  | some x =>
    cases x with
    | waiting => exact (SlotReply.waiting (Config.unissuedNumber c).toNat).of_words (ws := [0, 0, 0]) (hnumber 0 _) rfl
    | outstanding q => exact (SlotReply.outstanding q).of_words (ws := [0, 0, 0]) (hnumber 1 q) (wordOf_eq_bytes rfl rfl)
    | contact q st =>
      have hreply := SlotReply.contact q st (Config.contactOverload c) (Config.contactRange c) (Config.contactReading c)
      rw [← readingWords_eq] at hreply
      exact hreply.of_words (hnumber 2 q) (wordOf_eq_bytes rfl (hstatus st))
    | reading q r =>
      have hreply := SlotReply.reading q r
      rw [← readingWords_eq] at hreply
      exact hreply.of_words (hnumber 2 q) (wordOf_eq_bytes rfl rfl)
    | expired q =>
      cases q with
      | none =>
        exact (SlotReply.expiredUnissued (Config.unissuedNumber c).toNat).of_words (ws := [0, 0, 0]) (hnumber 3 _) rfl
      | some q => exact (SlotReply.expired q).of_words (ws := [0, 0, 0]) (hnumber 3 q) (wordOf_eq_bytes rfl rfl)
    | skipped => exact (SlotReply.skipped (Config.unissuedNumber c).toNat).of_words (ws := [0, 0, 0]) (hnumber 4 _) rfl

/-! ## BANK-ENTRY and LANE -/

theorem routeByte_eq (r : Route) : routeByte r = BitVec.ofNat 8 (match r with | some l => l.val | none => 255) := by
  cases r <;> rfl

theorem headerWords_eq (b : Bank) : headerWords b =
    [bytes b.table.loaded.toNat b.table.nb, b.table.range.setWidth 16] ++ words32 b.table.lot ++
      words32 (BitVec.ofNat 32 b.table.nexp) ++ [BitVec.ofInt 16 b.table.tcr, BitVec.ofNat 16 b.table.guard] ++
      words32 (BitVec.ofNat 32 b.table.stability) ++ [b.generation] := by
  have hloaded : bitAt 0 b.table.loaded = BitVec.ofNat 8 b.table.loaded.toNat := by cases b.table.loaded <;> rfl
  rw [headerWords, wordOf_eq_bytes hloaded rfl]

theorem routeWords_eq (t : Table) : routeWords t =
    [t.routeOut, t.routeContact, t.routeMissing, t.routeInvalid, t.routeUnstable].map fun r =>
      bytes 0 (match r with | some l => l.val | none => 255) :=
  List.map_congr_left fun _ _ => wordOf_eq_bytes rfl (routeByte_eq _)

theorem laneAttrByte_eq (x : LaneAttr) :
    laneAttrByte x = BitVec.ofNat 8 (match x with | .opened => 0 | .held => 1 | .disabled => 2) := by cases x <;> rfl

theorem optionBits_eq (u : LaneSetup) : optionBits u =
    BitVec.ofNat 8 (u.activeLow.toNat + 2 * u.safeLow.toNat + 4 * u.safeHigh.toNat + 8 * u.confirm.toNat) := by
  simpa [bitAt, optionBits] using flagByte_eq u.activeLow u.safeLow u.safeHigh u.confirm false false false false

/-- Two flags and the length of the confirm queue in one byte. -/
theorem laneByte_flags (full last : Bool) (n : Nat) : bitAt 0 full ||| bitAt 1 last ||| (BitVec.ofNat 8 n <<< 4) =
    BitVec.ofNat 8 (full.toNat + 2 * last.toNat + 16 * (n % 16)) := by
  have hsmall : ∀ (a b : Bool) (m : Fin 16), bitAt 0 a ||| bitAt 1 b ||| (BitVec.ofNat 8 m.val <<< 4) =
      BitVec.ofNat 8 (a.toNat + 2 * b.toNat + 16 * m.val) := by decide
  have hshift : BitVec.ofNat 8 n <<< 4 = BitVec.ofNat 8 (n % 16) <<< 4 := by
    apply BitVec.eq_of_toNat_eq
    simp only [BitVec.toNat_shiftLeft, BitVec.toNat_ofNat, Nat.shiftLeft_eq]
    omega
  rw [hshift]
  exact hsmall full last ⟨n % 16, Nat.mod_lt _ (by decide)⟩

theorem laneWords_eq (s : State) (l : LaneNo) {L : Lane} (hL : s.lanes[l] = L) : laneWords s l =
    [bytes (match L.attr with | .opened => 0 | .held => 1 | .disabled => 2)
      ((if FullLane L then 1 else 0) + (if s.overflow = some l then 2 else 0) + 16 * (L.queue.length % 16)),
     BitVec.ofNat 16 L.capacity, BitVec.ofNat 16 L.delivered, BitVec.ofNat 16 L.reserved,
     bytes (match L.setup.partner with | some q => q.val | none => 255) L.setup.offset,
     BitVec.ofNat 16 L.setup.firePhase, BitVec.ofNat 16 L.setup.width, BitVec.ofNat 16 L.setup.firstShot,
     BitVec.ofNat 16 L.setup.restDist, BitVec.ofNat 16 L.setup.tailTrim, BitVec.ofNat 16 L.setup.window,
     bytes 0 (L.setup.activeLow.toNat + 2 * L.setup.safeLow.toNat + 4 * L.setup.safeHigh.toNat +
      8 * L.setup.confirm.toNat)] := by
  subst hL
  have hfull : (laneFull s.lanes[l]).toNat = if FullLane s.lanes[l] then 1 else 0 := by
    split
    · next h => rw [(laneFull_iff _).mpr h]; rfl
    · next h => rw [Bool.eq_false_iff.mpr (mt (laneFull_iff _).mp h)]; rfl
  have hover : 2 * (s.overflow == some l).toNat = if s.overflow = some l then 2 else 0 := by
    by_cases h : s.overflow = some l <;> simp [h]
  have hflags := laneByte_flags (laneFull s.lanes[l]) (s.overflow == some l) s.lanes[l].queue.length
  rw [hfull, hover] at hflags
  unfold laneWords
  dsimp only
  rw [wordOf_eq_bytes (laneAttrByte_eq _) hflags, wordOf_eq_bytes (routeByte_eq _) rfl, wordOf_eq_bytes (a := 0) (h := 0) rfl (optionBits_eq _)] <;> rfl

theorem bankOf_eq_some (w : Word16) (id : BankId) :
    bankOf w = some id ↔ w.toNat = match id with | .a => 0 | .b => 1 := by
  have h0 : w = 0 ↔ w.toNat = 0 := by rw [← BitVec.toNat_inj]; rfl
  have h1 : w = 1 ↔ w.toNat = 1 := by rw [← BitVec.toNat_inj]; rfl
  simp only [bankOf, h0, h1]
  cases id
  · by_cases h : w.toNat = 0
    · simp [h]
    · by_cases h' : w.toNat = 1 <;> simp [h, h']
  · by_cases h : w.toNat = 0
    · simp [h]
    · by_cases h' : w.toNat = 1 <;> simp [h, h']

/-- A word equals a small number where its value does. -/
theorem word_eq_iff (w : Word16) (n : Nat) (h : n < 65536) : w = BitVec.ofNat 16 n ↔ w.toNat = n := by
  rw [← BitVec.toNat_inj, BitVec.toNat_ofNat, Nat.mod_eq_of_lt h]

/-- Settles O21. -/
theorem queryRecordsAnswered : Obligations.QueryRecordsAnswered := by
  unfold Obligations.QueryRecordsAnswered
  intro f before s hs hhead hp
  refine ⟨fun hw => ?_, fun hw => ?_, fun hw => ?_⟩
  · have hsel : selectorOf (firstArg f) = some .pocket := (selectorOf_eq_some _ _).mpr hw
    have hexec {u : State} {a : Answer} (ha : actQueryPocket f (keepPlace s) = (u, a)) :=
      exec_replied (c := .queryPocket) rfl hs hhead hp (queryArg_of_selector hsel) ha
    have hact : actQueryPocket f (keepPlace s) = _ := forSelector_of_selector hsel
    have hzero := word_eq_iff (word f 3) 0 (by decide)
    have hwhole (k : PocketNo) (hk : (word f 2).toNat = k.val) (h3 : (word f 3).toNat = 0) :
        exec .queryPocket before = .next (replied f { status := .ok, data := pocketWords s k } (s.setChoice (s.choice + 1))) := by
      have hlt : (word f 2).toNat < 128 := hk ▸ k.isLt
      obtain rfl : (⟨(word f 2).toNat, hlt⟩ : PocketNo) = k := Fin.ext hk
      exact hexec (u := (keepPlace s).setChoice (s.choice + 1)) (hact.trans ((dif_pos hlt).trans (if_pos (hzero.mpr h3))))
    have hslot (k : PocketNo) (hk : (word f 2).toNat = k.val) (m : StationNo) (h3 : (word f 3).toNat = m.val + 1) :
        exec .queryPocket before =
          .next (replied f { status := .ok, data := pocketSlotWords s k m } (s.setChoice (s.choice + 1))) := by
      have hlt : (word f 2).toNat < 128 := hk ▸ k.isLt
      have hlt3 : (word f 3).toNat - 1 < 4 := by omega
      obtain rfl : (⟨(word f 2).toNat, hlt⟩ : PocketNo) = k := Fin.ext hk
      obtain rfl : (⟨(word f 3).toNat - 1, hlt3⟩ : StationNo) = m := Fin.ext (by dsimp only; omega)
      exact hexec (u := (keepPlace s).setChoice (s.choice + 1)) (hact.trans ((dif_pos hlt).trans
        ((if_neg (mt hzero.mp (by omega))).trans (dif_pos hlt3))))
    refine ⟨fun hbad => hexec (u := keepPlace s) (hact.trans ?_), fun k hk => ⟨fun h3 hfree => ?_, fun p x h3 hlive hx => ?_,
      fun m h3 => ⟨fun hfree => ?_, fun p hlive => ?_⟩⟩⟩
    · by_cases hlt : (word f 2).toNat < 128
      · exact (dif_pos hlt).trans ((if_neg (mt hzero.mp (by omega))).trans (dif_neg (by omega)))
      · exact dif_neg hlt
    · exact ⟨_, _, (hwhole k hk h3).trans (by rw [pocketWords_free hfree])⟩
    · exact exec_answered (hwhole k hk h3) (pocketWords_live hlive hx)
    · rw [hslot k hk m h3, pocketSlotWords, hfree]
      rfl
    · refine ⟨_, slotWords_reply s.choice _, ?_⟩
      rw [hslot k hk m h3, pocketSlotWords, hlive]
  · have hsel : selectorOf (firstArg f) = some .bankEntry := (selectorOf_eq_some _ _).mpr hw
    have hexec {u : State} {a : Answer} (ha : actQueryBankEntry f (keepPlace s) = (u, a)) :=
      exec_replied (c := .queryBankEntry) rfl hs hhead hp (queryArg_of_selector hsel) ha
    have hact : actQueryBankEntry f (keepPlace s) = _ := forSelector_of_selector hsel
    have h24 := word_eq_iff (word f 3) 24 (by decide)
    have h25 := word_eq_iff (word f 3) 25 (by decide)
    refine ⟨fun hbad => hexec (u := keepPlace s) (hact.trans ?_), fun id hid => ?_⟩
    · cases hb : bankOf (word f 2) with
      | none => rfl
      | some id =>
        have hid := (bankOf_eq_some _ _).mp hb
        have hlt : (word f 2).toNat < 2 := by cases id <;> exact hid.trans_lt (by decide)
        exact (dif_neg (by omega)).trans ((if_neg (mt h24.mp (by omega))).trans (if_neg (mt h25.mp (by omega))))
    · rw [(bankOf_eq_some _ _).mpr hid] at hact
      have hentry (i : Fin 24) (hi : (word f 3).toNat = i.val) : exec .queryBankEntry before = .next (replied f
          { status := .ok, data := entryWords s (bankAt s.banks id).table.entries[i] } (s.setChoice (s.choice + 1))) := by
        have hlt : (word f 3).toNat < 24 := hi ▸ i.isLt
        obtain rfl : (⟨(word f 3).toNat, hlt⟩ : Fin 24) = i := Fin.ext hi
        exact hexec (u := (keepPlace s).setChoice (s.choice + 1)) (hact.trans (dif_pos hlt))
      refine ⟨fun i hi => ⟨fun e he => ?_, fun he => ?_⟩, fun h3 b hb => ?_, fun h3 t ht => ?_⟩
      · rw [hentry i hi, he, entryWords, wordOf_eq_bytes (a := 1) (h := 1) rfl (routeByte_eq _)]
        rfl
      · refine ⟨Config.unsetLow s.choice, Config.unsetHigh s.choice, exec_answered (hentry i hi) ?_⟩
        rw [he, entryWords]
        exact congrArg (List.cons · _) (wordOf_eq_bytes rfl rfl)
      · subst hb
        rw [← headerWords_eq]
        exact hexec (u := keepPlace s) (hact.trans ((dif_neg (by omega)).trans (if_pos (h24.mpr h3))))
      · subst ht
        exact exec_answered (u := keepPlace s) (hexec (hact.trans ((dif_neg (by omega)).trans
          ((if_neg (mt h24.mp (by omega))).trans (if_pos (h25.mpr h3)))))) (routeWords_eq _)
  · have hsel : selectorOf (firstArg f) = some .lane := (selectorOf_eq_some _ _).mpr hw
    have hexec {a : Answer} (ha : actQueryLane f (keepPlace s) = (keepPlace s, a)) :=
      exec_replied (c := .queryLane) (u := keepPlace s) rfl hs hhead hp (queryArg_of_selector hsel) ha
    have hact : actQueryLane f (keepPlace s) = _ := forSelector_of_selector hsel
    refine ⟨fun hbad => hexec (hact.trans (dif_neg (by omega))), fun l L hl hL => ?_⟩
    have hlt : (word f 2).toNat < 16 := hl ▸ l.isLt
    obtain rfl : (⟨(word f 2).toNat, hlt⟩ : LaneNo) = l := Fin.ext hl
    exact exec_answered (u := keepPlace s) (hexec (hact.trans (dif_pos hlt))) (laneWords_eq s _ hL)

end Sys2Proof.Machine
end

section
/-!
PROOF. The frame processor: refused and stalled frames (O22, O23), FILLER and TEMP (O24), and RESULT (O25, O26).
-/

namespace Sys2Proof.Machine

/-! ## Frames that no owner executes -/

/-- The first argument byte is an order or selector that is none of its kind's. -/
def UndefinedOrder : Kind → Byte → Prop
  | .runControl, c => runOrderOf c = none
  | .maskControl, c => maskOrderOf c = none
  | .eventControl, c => eventOrderOf c = none
  | .query, c => selectorOf c = none
  | _, _ => False

theorem undefinedOrder_of_ranges {k : Kind} {c : Byte}
    (h : (k = .runControl ∧ (c.toNat = 0 ∨ 6 ≤ c.toNat)) ∨ (k = .maskControl ∧ (c.toNat = 0 ∨ 4 ≤ c.toNat)) ∨
      (k = .eventControl ∧ (c.toNat = 0 ∨ 3 ≤ c.toNat)) ∨ (k = .query ∧ (c.toNat = 0 ∨ 7 ≤ c.toNat))) :
    UndefinedOrder k c := by
  obtain ⟨rfl, hc⟩ | ⟨rfl, hc⟩ | ⟨rfl, hc⟩ | ⟨rfl, hc⟩ := h
  · exact eq_none_of_forall (runOrderOf_eq_some c) (by rintro (_ | _ | _ | _ | _) ho <;> simp only at ho <;> omega)
  · exact eq_none_of_forall (maskOrderOf_eq_some c) (by rintro (_ | _ | _) ho <;> simp only at ho <;> omega)
  · exact eq_none_of_forall (eventOrderOf_eq_some c) (by rintro (_ | _) ho <;> simp only at ho <;> omega)
  · exact eq_none_of_forall (selectorOf_eq_some c) (by rintro (_ | _ | _ | _ | _ | _) ho <;> simp only at ho <;> omega)

/-- The command takes up frames of the kind, and refuses an undefined order. -/
def TakesUp (c : Instr) (k : Kind) (before : State) : Prop :=
  ∃ (mine : Byte → Bool) (act : Frame → State → State × Answer),
    exec c before = .next (takeUp k mine act (settled before)) ∧
      ∀ (g : Frame) (t : State), UndefinedOrder k (firstArg g) →
        mine (firstArg g) = true ∧ act g t = (t, answer .badArg)

section
variable {before : State}

theorem takesUp_run {c : Instr} {o : RunOrder} {go : Frame → State → State × Answer}
    (h : exec c before = .next (takeUp .runControl (runArg o) (fun f s => forRunOrder o f s (go f s)) (settled before))) :
    TakesUp c .runControl before :=
  ⟨_, _, h, fun g t hu => by
    have hnone : runOrderOf (firstArg g) = none := hu
    simp [runArg, forRunOrder, hnone]⟩

theorem takesUp_mask {c : Instr} {o : MaskOrder} {go : Frame → State → State × Answer}
    (h : exec c before = .next (takeUp .maskControl (maskArg o) (fun f s => forMaskOrder o f s (go f s)) (settled before))) :
    TakesUp c .maskControl before :=
  ⟨_, _, h, fun g t hu => by
    have hnone : maskOrderOf (firstArg g) = none := hu
    simp [maskArg, forMaskOrder, hnone]⟩

theorem takesUp_event {c : Instr} {o : EventOrder} {go : State → BitVec 14 → State}
    (h : exec c before = .next (takeUp .eventControl (eventArg o) (fun f s => forEventOrder o f s (go s)) (settled before))) :
    TakesUp c .eventControl before :=
  ⟨_, _, h, fun g t hu => by
    have hnone : eventOrderOf (firstArg g) = none := hu
    simp [eventArg, forEventOrder, hnone]⟩

theorem takesUp_query {c : Instr} {x : Selector} {go : Frame → State → State × Answer}
    (h : exec c before = .next (takeUp .query (queryArg x) (fun f s => forSelector x f s (go f s)) (settled before))) :
    TakesUp c .query before :=
  ⟨_, _, h, fun g t hu => by
    have hnone : selectorOf (firstArg g) = none := hu
    simp [queryArg, forSelector, hnone]⟩

theorem takesUp_plain {c : Instr} {k : Kind} {act : Frame → State → State × Answer}
    (hk : ∀ b, ¬ UndefinedOrder k b) (h : exec c before = .next (takeUp k anyArg act (settled before))) :
    TakesUp c k before :=
  ⟨_, _, h, fun _ _ hu => absurd hu (hk _)⟩

end

theorem runReset_of_head {s : State} {f : Frame} (hhead : s.inbound.head? = some f) (hr : isRunReset f = false) :
    runReset s = takeUp .runControl (fun c => (runOrderOf c).isNone) actBadOrder s := by
  unfold runReset
  cases hin : s.inbound with
  | nil => simp [hin] at hhead
  | cons g rest =>
    obtain rfl : g = f := by simpa [hin] using hhead
    simp [hr]

/-- RUN_RESET takes up a RUN-CONTROL frame that is no RUN-RESET. -/
theorem takesUp_runReset {before : State} {f : Frame} (hhead : (settled before).inbound.head? = some f)
    (hr : isRunReset f = false) : TakesUp .runReset .runControl before := by
  refine ⟨fun c => (runOrderOf c).isNone, actBadOrder, congrArg Host.Outcome.next (runReset_of_head hhead hr),
    fun g t hu => ?_⟩
  have hnone : runOrderOf (firstArg g) = none := hu
  exact ⟨by simp [hnone], rfl⟩

/-- Every command of a management kind takes up frames of its kind, but for a RUN-RESET at RUN_RESET. -/
theorem takesUp_of_frameKind {c : Instr} {k : Kind} {f : Frame} {before : State} (hc : c.frameKind = some k)
    (hm : isManagement k = true) (hhead : (settled before).inbound.head? = some f) (hr : isRunReset f = false) :
    TakesUp c k before := by
  cases c with
  | runReset => obtain rfl := Option.some.inj hc; exact takesUp_runReset hhead hr
  | start | stop | pauseLoad | resumeLoad => obtain rfl := Option.some.inj hc; exact takesUp_run rfl
  | force | recover | mode => obtain rfl := Option.some.inj hc; exact takesUp_mask rfl
  | enable | clear => obtain rfl := Option.some.inj hc; exact takesUp_event rfl
  | queryStatus | queryPocket | queryBankEntry | queryLane | queryTally | queryCounters =>
    obtain rfl := Option.some.inj hc
    exact takesUp_query rfl
  | bankHeader | binEntry | specialRoute | bankSwap | geometry | station | laneSetup | laneState | laneEmpty | tallyClear
  | lock | formatSelect => obtain rfl := Option.some.inj hc; exact takesUp_plain (fun _ h => h) rfl
  | _ =>
    simp only [Instr.frameKind, Option.some.injEq, reduceCtorEq] at hc
    all_goals (subst hc; simp [isManagement] at hm)

theorem isRunReset_iff (f : Frame) : isRunReset f = true ↔
    frameCode f = kindCode .runControl ∧ declaredLength f = 3 ∧ (loByte (word f 1)).toNat = 5 := by
  simp only [isRunReset, Bool.and_eq_true, beq_iff_eq, runOrderOf_eq_some, lengthFits, kindLength, Option.some.injEq,
    and_assoc, firstArg]
  rw [eq_comm (a := 3)]

theorem kindOf_kindCode (k : Kind) : kindOf (kindCode k) = some k := by cases k <;> rfl

theorem kindCode_injective : Function.Injective kindCode := fun a b h =>
  Option.some.inj ((kindOf_kindCode a).symm.trans ((congrArg kindOf h).trans (kindOf_kindCode b)))

theorem kindOf_eq_none {c : Byte} (h : ∀ k, kindCode k ≠ c) : kindOf c = none := by simp [kindOf, h]

theorem exec_unknownKind (s : State) : exec .unknownKind s = .next (takeUnknown (settled s)) := rfl

theorem placeForReply_of_not_canBegin {s : State} (h : ¬ CanBegin s) : ¬ placeForReply s = true := by
  rw [placeForReply, Bool.or_eq_true, decide_eq_true_eq]
  exact h

theorem takeUnknown_of_head {s : State} {f : Frame} (hhead : s.inbound.head? = some f) (hk : ∀ k, kindCode k ≠ frameCode f) :
    takeUnknown s = if declaredLength f = 2 then dropHead (countUnexpected s)
      else if placeForReply s then placeReply f (answer .unknownKind) (dropHead (keepPlace s)) else s := by
  unfold takeUnknown
  cases hin : s.inbound with
  | nil => simp [hin] at hhead
  | cons g rest =>
    obtain rfl : g = f := by simpa [hin] using hhead
    simp [kindOf_eq_none hk]

/-- Settles O22. -/
theorem malformedFramesAnswered : Obligations.MalformedFramesAnswered := by
  unfold Obligations.MalformedFramesAnswered
  intro f before s hs hhead
  refine ⟨fun hk => ⟨fun hlen => ?_, fun hlen hp => ?_⟩, fun hp c k hc hm hk => ?_⟩
  · rw [exec_unknownKind, ← hs, takeUnknown_of_head hhead hk, if_pos hlen]
    rfl
  · rw [exec_unknownKind, ← hs, takeUnknown_of_head hhead hk, if_neg hlen, if_pos (placeForReply_of_canBegin hp)]
    rfl
  · refine ⟨fun hlen => ?_, fun hlen hrange => ?_⟩
    · have hfits : lengthFits k f = false := by simpa [lengthFits] using hlen
      have hr : isRunReset f = false := by
        rw [Bool.eq_false_iff, ne_eq, isRunReset_iff]
        rintro ⟨hcode, hthree, -⟩
        obtain rfl := kindCode_injective (hk.symm.trans hcode)
        exact hlen (congrArg some hthree.symm)
      obtain ⟨mine, act, hexec, -⟩ := takesUp_of_frameKind (before := before) hc hm (hs ▸ hhead) hr
      rw [hexec, ← hs, takeUp_badLength hhead hk hfits hp]
      rfl
    · have hundefined := undefinedOrder_of_ranges hrange
      have hr : isRunReset f = false := by
        rw [Bool.eq_false_iff, ne_eq, isRunReset_iff]
        rintro ⟨hcode, -, hfive⟩
        obtain rfl := kindCode_injective (hk.symm.trans hcode)
        have hnone : runOrderOf (firstArg f) = none := hundefined
        rw [(runOrderOf_eq_some (firstArg f) .runReset).mpr hfive] at hnone
        cases hnone
      obtain ⟨mine, act, hexec, hact⟩ := takesUp_of_frameKind (before := before) hc hm (hs ▸ hhead) hr
      obtain ⟨hmine, hanswer⟩ := hact f (keepPlace s) hundefined
      rw [hexec, ← hs, takeUp_of_headOf ⟨hhead, hk, hlen⟩ hmine hp, hanswer, replied_keepPlace]
      rfl

/-- Settles O23. -/
theorem stalledFrameWaits : Obligations.StalledFrameWaits := by
  unfold Obligations.StalledFrameWaits
  intro f before s hs hhead hplace hfull
  subst hs
  have hp : ¬ CanBegin (settled before) := by
    rintro (h | h)
    · simp [hplace] at h
    · omega
  refine ⟨fun c k hc hm hk hnot => ?_, fun hk hlen => ?_⟩
  · have hr : isRunReset f = false := by
      rw [Bool.eq_false_iff, ne_eq, isRunReset_iff]
      rintro ⟨hcode, hthree, hfive⟩
      exact hnot ⟨kindCode_injective (hk.symm.trans hcode), hthree, hfive⟩
    obtain ⟨mine, act, hexec, -⟩ := takesUp_of_frameKind hc hm hhead hr
    rw [hexec, takeUp_stalled hp]
  · rw [exec_unknownKind, takeUnknown_of_head hhead hk, if_neg hlen, if_neg (placeForReply_of_not_canBegin hp)]

/-! ## FILLER and TEMP -/

theorem lengthFits_iff (k : Kind) {n : Nat} (f : Frame) (hn : kindLength k = some n) :
    lengthFits k f = true ↔ declaredLength f = n := by
  rw [lengthFits, hn, beq_iff_eq, Option.some.injEq]
  exact eq_comm

theorem takeQuiet_of_head {k : Kind} {act : Frame → State → State} {s : State} {f : Frame}
    (hhead : s.inbound.head? = some f) (hk : frameCode f = kindCode k) : takeQuiet k act s = taken (act f s) := by
  unfold takeQuiet
  cases hin : s.inbound with
  | nil => simp [hin] at hhead
  | cons g rest =>
    obtain rfl : g = f := by simpa [hin] using hhead
    exact if_pos hk

/-- A FILLER, RESULT or TEMP frame at the head is handed to its owner, and leaves the queue. -/
theorem exec_quiet {c : Instr} {k : Kind} {act : Frame → State → State} {f : Frame} {before : State}
    (hc : exec c before = .next (takeQuiet k act (settled before))) (hhead : (settled before).inbound.head? = some f)
    (hk : frameCode f = kindCode k) : exec c before = .next (taken (act f (settled before))) := by
  rw [hc, takeQuiet_of_head hhead hk]

theorem clampTemp_eq (x : Int) : clampTemp x = max (-640) (min 2000 x) := by rw [clampTemp, min_comm]

/-- Settles O24. -/
theorem fillerAndTempExecuted : Obligations.FillerAndTempExecuted := by
  unfold Obligations.FillerAndTempExecuted
  intro f before s hs hhead
  subst hs
  refine ⟨fun hk => exec_quiet (c := .filler) (k := .filler) (act := fun _ t => t) rfl hhead hk, fun hk => ?_⟩
  have hexec : exec .temp before = .next (taken (takeTemp f (settled before))) :=
    exec_quiet (k := .temp) rfl hhead hk
  have hfits := lengthFits_iff .temp (n := 4) f rfl
  refine ⟨fun hlen m hm => ?_, fun hbad => ?_⟩
  · have hclamp (x : Station) : { x with temp := some (clampTemp (word f 2).toInt) } =
        { x with temp := some (max (-640) (min 2000 (word f 2).toInt)) } := by rw [clampTemp_eq]
    rw [hexec, takeTemp, if_pos (hfits.mpr hlen), (stationOf_eq_some _ _).mpr hm, ← funext hclamp]
  · rw [hexec]
    refine congrArg (fun t => Host.Outcome.next (taken t)) ?_
    by_cases hlen : declaredLength f = 4
    · rw [takeTemp, if_pos (hfits.mpr hlen), (stationOf_eq_none _).mpr (hbad.resolve_left (fun h => h hlen))]
      rfl
    · exact if_neg (mt hfits.mp hlen)

/-! ## RESULT -/

/-- With a resolved value in a station's slot, the record is resolved where its other slots are. -/
theorem allResolved_set {m : StationNo} {p : Part} {x : Slot} (hx : isResolved x = true) :
    allResolved (p.slots.set m (some x)) = !othersUnresolved m p := by
  rw [Bool.eq_iff_iff, allResolved_iff, Bool.not_eq_true', othersUnresolved, List.any_eq_false]
  have hself : (p.slots.set m (some x))[m] = some x := by simp
  have hother (n : StationNo) (hn : n ≠ m) : (p.slots.set m (some x))[n] = p.slots[n] := by
    rw [Fin.getElem_fin, Vector.getElem_set_ne _ _ (fun h => hn (Fin.ext h.symm))]
    rfl
  constructor
  · rintro h ⟨n, y⟩ hy
    rw [mem_slotList_iff] at hy
    by_cases hn : n = m
    · simp [hn]
    · simpa [hn] using h n y ((hother n hn).trans hy)
  · intro h n y hy
    by_cases hn : n = m
    · subst hn
      rw [hself] at hy
      exact Option.some.inj hy ▸ hx
    · rw [hother n hn] at hy
      simpa [hn] using h (n, y) ((mem_slotList_iff _ _ _).mpr hy)

/-- A record with a slot unresolved is not classified. -/
theorem classify_of_unresolved {k : PocketNo} {p : Part} {s : State} (hp : s.ring[k] = some p)
    (h : allResolved p.slots = false) : classify k s = s := by
  unfold classify
  simp [hp, h]

theorem setRecord_at_self (k : PocketNo) (r : Option Part) (s : State) : (setRecord k r s).ring[k] = r := by
  simp [setRecord]

theorem writeSlot_eq {k : PocketNo} {m : StationNo} {x : Slot} {p : Part} {s : State} (hp : s.ring[k] = some p)
    (ha : p.st = .await) :
    writeSlot k m x s = classify k (setRecord k (some { p with slots := p.slots.set m (some x) }) s) := by
  unfold writeSlot
  rw [hp]
  exact if_pos ha

/-- While another slot is unresolved the record waits on. -/
theorem writeSlot_waits {k : PocketNo} {m : StationNo} {x : Slot} {p : Part} {s : State} (hp : s.ring[k] = some p)
    (ha : p.st = .await) (hx : isResolved x = true) (h : othersUnresolved m p = true) :
    writeSlot k m x s = setRecord k (some { p with slots := p.slots.set m (some x) }) s := by
  rw [writeSlot_eq hp ha]
  exact classify_of_unresolved (setRecord_at_self _ _ _) (by rw [allResolved_set hx, h]; rfl)

/-- The slot that an accepted RESULT leaves is the one its value gives. -/
theorem resultValue_of_leaves {s : State} {f : Frame} {m : StationNo} {x : Slot} (h : ResultLeaves s f m x) :
    ∃ v, resultValue s.stations[m].role f = some v ∧
      receivedSlot (loByte (word f 1)) s.stations[m].temp v = x ∧ isResolved x = true := by
  have hzero : hiByte (word f 2) = 0 ↔ (hiByte (word f 2)).toNat = 0 := byte_eq _ 0 (by decide)
  have hone : hiByte (word f 2) = 1 ↔ (hiByte (word f 2)).toNat = 1 := byte_eq _ 1 (by decide)
  cases h with
  | contact st hrole htype hcode =>
    refine ⟨.contact st, ?_, rfl, rfl⟩
    unfold resultValue
    rw [hrole]
    dsimp only
    rw [if_pos (hzero.mpr htype), (contactStatusOf_eq_some _ _).mpr hcode]
    rfl
  | reading hrole htype hbits =>
    have hrange : (word f 2).setWidth 3 = (loByte (word f 2)).extractLsb' 0 3 := by
      apply BitVec.eq_of_toNat_eq
      simp only [loByte, BitVec.toNat_setWidth, BitVec.extractLsb'_toNat, Nat.shiftRight_zero]
      omega
    have hoverload : (word f 2).getLsbD 7 = (loByte (word f 2)).getLsbD 7 := by simp [loByte]
    rw [hrange, hoverload]
    refine ⟨.reading (loByte (word f 3) ++ word f 4) ((loByte (word f 2)).extractLsb' 0 3) ((loByte (word f 2)).getLsbD 7),
      ?_, rfl, rfl⟩
    unfold resultValue
    rw [hrole]
    exact if_pos ⟨hone.mpr htype, hbits⟩

/-- Row 1 of R60 leaves no value. -/
theorem resultValue_of_rowOne {s : State} {f : Frame} {m : StationNo} (hm : (hiByte (word f 1)).toNat = m.val)
    (h : RowOne s f) : resultValue s.stations[m].role f = none := by
  have hrow := h m hm
  have hzero : hiByte (word f 2) = 0 ↔ (hiByte (word f 2)).toNat = 0 := byte_eq _ 0 (by decide)
  have hone : hiByte (word f 2) = 1 ↔ (hiByte (word f 2)).toNat = 1 := byte_eq _ 1 (by decide)
  unfold resultValue
  cases hrole : s.stations[m].role with
  | none => rfl
  | contact =>
    rw [hrole] at hrow
    have hcode (htype : (hiByte (word f 2)).toNat = 0) : contactStatusOf (loByte (word f 2)) = none :=
      eq_none_of_forall (contactStatusOf_eq_some _) fun st hst => by
        have hbig := hrow.resolve_left fun h => h htype
        cases st <;> simp only [ContactCode] at hst <;> omega
    dsimp only
    by_cases htype : (hiByte (word f 2)).toNat = 0
    · rw [if_pos (hzero.mpr htype), hcode htype]
      rfl
    · exact if_neg (mt hzero.mp htype)
  | prec =>
    rw [hrole] at hrow
    exact if_neg fun ⟨htype, hbits⟩ => hrow.elim (fun h => h (hone.mp htype)) (fun h => h hbits)

theorem mem_allPockets (k : PocketNo) : k ∈ allPockets := List.mem_finRange k

theorem waitsFor_iff (s : State) (m : StationNo) (q : BitVec 8) (k : PocketNo) : waitsFor s m q k = true ↔
    ∃ p, s.ring[k] = some p ∧ p.st = .await ∧ p.slots[m] = some (.outstanding q) := by
  unfold waitsFor
  cases s.ring[k] <;> simp

theorem hasReceived_iff (s : State) (m : StationNo) (q : BitVec 8) (k : PocketNo) : hasReceived s m q k = true ↔
    ∃ p, s.ring[k] = some p ∧
      ((∃ st, p.slots[m] = some (.contact q st)) ∨ ∃ r, p.slots[m] = some (.reading q r)) := by
  unfold hasReceived
  cases s.ring[k] with
  | none => simp
  | some p =>
    simp only [Option.some.injEq, exists_eq_left']
    rcases p.slots[m] with _ | x
    · simp
    · cases x <;> simp

/-- A RESULT frame at the head goes to the station sequencer. -/
theorem exec_result_of_head {f : Frame} {before : State} (hhead : (settled before).inbound.head? = some f)
    (hk : frameCode f = 0x01) : exec .result before = .next (taken (takeResult f (settled before))) :=
  exec_quiet (k := .result) rfl hhead hk

theorem takeResult_of_leaves {s : State} {f : Frame} {m : StationNo} {x : Slot} (hlen : declaredLength f = 6)
    (hm : (hiByte (word f 1)).toNat = m.val) (h : ResultLeaves s f m x) :
    ∃ v, takeResult f s = fileResult m (loByte (word f 1)) v s ∧
      receivedSlot (loByte (word f 1)) s.stations[m].temp v = x ∧ isResolved x = true := by
  obtain ⟨v, hv, hslot, hx⟩ := resultValue_of_leaves h
  refine ⟨v, ?_, hslot, hx⟩
  rw [takeResult, if_pos ((lengthFits_iff .result f rfl).mpr hlen), (stationOf_eq_some _ _).mpr hm]
  dsimp only
  rw [hv]

/-- Settles O25. -/
theorem resultFiled : Obligations.ResultFiled := by
  unfold Obligations.ResultFiled
  intro f before s m k p x hs hhead hk hlen hm hleaves hp ha hslot honly
  subst hs
  obtain ⟨v, htake, hv, hx⟩ := takeResult_of_leaves hlen hm hleaves
  have hwaits : waitsFor (settled before) m (loByte (word f 1)) k = true := (waitsFor_iff _ _ _ _).mpr ⟨p, hp, ha, hslot⟩
  have hfind : allPockets.find? (waitsFor (settled before) m (loByte (word f 1))) = some k := by
    obtain ⟨j, hj⟩ := Option.isSome_iff_exists.mp (List.find?_isSome.mpr ⟨k, mem_allPockets k, hwaits⟩)
    obtain ⟨q, hq, hqa, hqs⟩ := (waitsFor_iff _ _ _ _).mp (List.find?_some hj)
    rw [hj, honly j q hq hqa hqs]
  have hexec : exec .result before = .next (taken (writeSlot k m x (settled before))) := by
    rw [exec_result_of_head hhead hk, htake, fileResult, hfind]
    dsimp only
    rw [hv]
  exact ⟨fun h => hexec.trans (by rw [writeSlot_waits hp ha hx h]), fun _ => hexec.trans (by rw [writeSlot_eq hp ha])⟩

/-- Settles O26. -/
theorem resultDiscarded : Obligations.ResultDiscarded := by
  unfold Obligations.ResultDiscarded
  intro f before s hs hhead hk
  have hexec := exec_result_of_head (before := before) (hs ▸ hhead) hk
  rw [← hs] at hexec
  have hfits := lengthFits_iff .result (n := 6) f rfl
  refine ⟨fun hbad => ?_, fun m x hlen hm hleaves hnone => ?_⟩
  · rw [hexec]
    refine congrArg (fun t => Host.Outcome.next (taken t)) ?_
    by_cases hlen : declaredLength f = 6
    · rw [takeResult, if_pos (hfits.mpr hlen)]
      cases hst : stationOf (hiByte (word f 1)) with
      | none => rfl
      | some m =>
        dsimp only
        rw [resultValue_of_rowOne ((stationOf_eq_some _ _).mp hst) (hbad.resolve_left fun h => h hlen)]
        rfl
    · exact if_neg (mt hfits.mp hlen)
  · obtain ⟨v, htake, -, -⟩ := takeResult_of_leaves hlen hm hleaves
    have hfind : allPockets.find? (waitsFor s m (loByte (word f 1))) = none :=
      List.find?_eq_none.mpr fun j _ hj => by
        obtain ⟨q, hq, hqa, hqs⟩ := (waitsFor_iff _ _ _ _).mp hj
        exact hnone j q hq hqa hqs
    rw [htake, fileResult, hfind] at hexec
    dsimp only at hexec
    have hany : allPockets.any (hasReceived s m (loByte (word f 1))) = true ↔
        ∃ (j : PocketNo) (q : Part), s.ring[j] = some q ∧ ((∃ st, q.slots[m] = some (.contact (loByte (word f 1)) st)) ∨
          ∃ r, q.slots[m] = some (.reading (loByte (word f 1)) r)) := by
      simp only [List.any_eq_true, hasReceived_iff, mem_allPockets, true_and]
    refine ⟨fun hlate => ?_, fun hfresh => ⟨fun hdup => ?_, fun hnew => ?_⟩⟩
    · rw [hexec, if_pos (by simpa using hlate)]
      rfl
    · rw [hexec, if_neg (by simpa using hfresh), if_pos (hany.mpr hdup)]
      rfl
    · rw [hexec, if_neg (by simpa using hfresh), if_neg]
      · rfl
      · rw [hany]
        rintro ⟨j, q, hq, ⟨st, h⟩ | ⟨r, h⟩⟩
        · exact (hnew j q hq).1 st h
        · exact (hnew j q hq).2 r h

end Sys2Proof.Machine
end

section
/-!
PROOF. The purge and its reports (O35), and what RUN-RESET and STOP leave (O4, O5).
-/

namespace Sys2Proof.Machine

/-! ## Reports and flags -/

/-- The PREC slots of a report are those of the specification's reading list. -/
theorem precSlots_eq (s : State) (p : Part) : precSlots s p = precReadings s p := by
  rw [precSlots, slotList, List.filter_filterMap, precReadings, ← allStations_eq_finRange]
  refine List.filterMap_congr fun m _ => ?_
  by_cases h : s.stations[m].role = .prec
  · rw [if_pos h]
    cases p.slots[m]
    · rfl
    · simpa [Option.filter] using h
  · rw [if_neg h]
    cases p.slots[m]
    · rfl
    · simpa [Option.filter] using h

theorem reportOf_eq (s : State) (o : OutcomeKind) (k : PocketNo) (p : Part) (purged : Bool) :
    reportOf s o k p purged = reportAs s o k p purged := by rw [reportOf, reportAs, precSlots_eq]

/-- What a raise adds to the report queue: a notice, or nothing. -/
theorem raise_report (fl : Flag) (s : State) : ∃ mid, (∀ x ∈ mid, ∃ flags, x = .event flags) ∧
    (raise fl s).report = { s.report with queue := s.report.queue ++ mid } := by
  have hnone {t : State} (h : t.report = s.report) : ∃ mid : List OutFrame, (∀ x ∈ mid, ∃ flags, x = .event flags) ∧
      t.report = { s.report with queue := s.report.queue ++ mid } := ⟨[], by simp, by simp [h]⟩
  unfold raise
  split
  · dsimp only
    split
    · exact hnone rfl
    · unfold offerNotice
      split
      · exact ⟨[_], by simp, rfl⟩
      · split <;> exact hnone rfl
  · exact hnone rfl

theorem raise_enables (fl : Flag) (s : State) : (raise fl s).events.enables = s.events.enables := by
  unfold raise offerNotice enqueue
  split
  · dsimp only
    split
    · rfl
    · split
      · rfl
      · split <;> rfl
  · rfl

/-- A raised flag is the only one that may change. -/
theorem raise_flag_other (fl : Flag) (s : State) {i : Nat} (hi : i ≠ flagBit fl) :
    (raise fl s).events.flags.getLsbD i = s.events.flags.getLsbD i := by
  rw [raise_flags, BitVec.getLsbD_or, flagSet_eq, BitVec.getLsbD_twoPow]
  simp [Ne.symm hi]

theorem raise_flag_self (fl : Flag) (s : State) : (raise fl s).events.flags.getLsbD (flagBit fl) = true := by
  have hb : flagBit fl < 14 := by cases fl <;> decide
  rw [raise_flags, BitVec.getLsbD_or, flagSet_eq, BitVec.getLsbD_twoPow]
  simp [hb]

/-- What a purge or a STOP may move of the state, besides freeing records, and the frames it hands. -/
structure Purging (mid : List OutFrame) (s t : State) : Prop where
  report : t.report = { s.report with queue := s.report.queue ++ mid }
  frames : ∀ x ∈ mid, (∃ flags, x = .event flags) ∨ ∃ r, x = .part r ∧ r.outcome = .unsorted ∧ r.purged = true
  enables : t.events.enables = s.events.enables
  flags : ∀ i : Fin 14, i.val ≠ 13 → t.events.flags.getLsbD i = s.events.flags.getLsbD i
  counters : t.counters = { s.counters with reportDrop := t.counters.reportDrop }
  tally : ∀ i : Fin 49, i ≠ tallyUnsorted → t.tally[i] = s.tally[i]
  lanes : ∀ l : LaneNo, t.lanes[l].attr = s.lanes[l].attr ∧ t.lanes[l].capacity = s.lanes[l].capacity ∧
    t.lanes[l].delivered = s.lanes[l].delivered ∧ t.lanes[l].setup = s.lanes[l].setup
  tables : ∀ id, (bankAt t.banks id).table = (bankAt s.banks id).table ∧
    (bankAt t.banks id).generation = (bankAt s.banks id).generation
  store : t.banks.live = s.banks.live ∧ t.banks.generation = s.banks.generation ∧ t.banks.lock = s.banks.lock

theorem Purging.refl (s : State) : Purging [] s s where
  report := by simp
  frames := by simp
  enables := rfl
  flags _ _ := rfl
  counters := rfl
  tally _ _ := rfl
  lanes _ := ⟨rfl, rfl, rfl, rfl⟩
  tables _ := ⟨rfl, rfl⟩
  store := ⟨rfl, rfl, rfl⟩

theorem Purging.trans {a b : List OutFrame} {s t u : State} (h : Purging a s t) (h' : Purging b t u) :
    Purging (a ++ b) s u where
  report := by rw [h'.report, h.report, List.append_assoc]
  frames x hx := (List.mem_append.mp hx).elim (h.frames x) (h'.frames x)
  enables := h'.enables.trans h.enables
  flags i hi := (h'.flags i hi).trans (h.flags i hi)
  counters := by rw [h'.counters, h.counters]
  tally i hi := (h'.tally i hi).trans (h.tally i hi)
  lanes l := by
    obtain ⟨h1, h2, h3, h4⟩ := h.lanes l
    obtain ⟨h1', h2', h3', h4'⟩ := h'.lanes l
    exact ⟨h1'.trans h1, h2'.trans h2, h3'.trans h3, h4'.trans h4⟩
  tables id := ⟨(h'.tables id).1.trans (h.tables id).1, (h'.tables id).2.trans (h.tables id).2⟩
  store := ⟨h'.store.1.trans h.store.1, h'.store.2.1.trans h.store.2.1, h'.store.2.2.trans h.store.2.2⟩

/-- A report of a purged record, handed. -/
theorem handReport_purging (r : PartReport) (hr : r.outcome = .unsorted ∧ r.purged = true) (s : State) :
    ∃ mid, Purging mid s (handReport r s) := by
  unfold handReport
  split
  · exact ⟨[.part r], { Purging.refl s with
      report := rfl
      frames := fun x hx => .inr ⟨r, List.mem_singleton.mp hx, hr⟩ }⟩
  · obtain ⟨mid, hmid, hreport⟩ := raise_report .reportDrop (countReportDrop s)
    exact ⟨mid, {
      report := hreport
      frames := fun x hx => .inl (hmid x hx)
      enables := raise_enables _ _
      flags := fun i hi => raise_flag_other .reportDrop (countReportDrop s) hi
      counters := by simp [countReportDrop]
      tally := fun i _ => by simp
      lanes := fun l => by simp
      tables := fun id => by simp
      store := by simp }⟩

theorem tallyCount_other {i j : Fin 49} (h : i ≠ j) (s : State) : (tallyCount j s).tally[i] = s.tally[i] := by
  rw [tallyCount, State.setTally_tally, Fin.getElem_fin, Vector.getElem_set_ne _ _ (fun e => h (Fin.ext e.symm))]
  rfl

theorem tallyCount_self (i : Fin 49) (s : State) : (tallyCount i s).tally[i] = satInc 4294967295 s.tally[i] := by
  simp [tallyCount]

/-- What a purge releases for a record leaves the lanes' settings and delivered counts, and the tables. -/
theorem purgeRelease_purging (k : PocketNo) (p : Part) (s : State) : Purging [] s (purgeRelease k p s) where
  report := by simp
  frames := by simp
  enables := by simp
  flags _ _ := by simp
  counters := by simp
  tally _ _ := by simp
  lanes l := by
    have hlane (j : LaneNo) (g : Lane → Lane) (hg : ∀ L, (g L).attr = L.attr ∧ (g L).capacity = L.capacity ∧
        (g L).delivered = L.delivered ∧ (g L).setup = L.setup) (t : State) :
        (modLane j g t).lanes[l].attr = t.lanes[l].attr ∧ (modLane j g t).lanes[l].capacity = t.lanes[l].capacity ∧
          (modLane j g t).lanes[l].delivered = t.lanes[l].delivered ∧ (modLane j g t).lanes[l].setup = t.lanes[l].setup := by
      by_cases he : l = j
      · subst he
        rw [modLane_self]
        exact hg _
      · rw [modLane_other he]
        exact ⟨rfl, rfl, rfl, rfl⟩
    unfold purgeRelease
    split
    · exact ⟨by simp [unbind], by simp [unbind], by simp [unbind], by simp [unbind]⟩
    · exact hlane _ releaseOn (fun _ => ⟨rfl, rfl, rfl, rfl⟩) s
    · exact hlane _ (fun L => releaseOn (dropEntry k L)) (fun _ => ⟨rfl, rfl, rfl, rfl⟩) s
    · exact ⟨rfl, rfl, rfl, rfl⟩
  tables id := by
    unfold purgeRelease
    split
    · rw [unbind, modBank_at]
      split
      · next he => rw [he]; exact ⟨rfl, rfl⟩
      · exact ⟨rfl, rfl⟩
    all_goals simp
  store := by
    unfold purgeRelease
    split
    · simp [unbind]
    all_goals simp

theorem tallyUnsorted_purging (s : State) : Purging [] s (tallyCount tallyUnsorted s) :=
  { Purging.refl s with tally := fun _ hi => tallyCount_other hi s }

theorem setRecord_purging (k : PocketNo) (r : Option Part) (s : State) : Purging [] s (setRecord k r s) :=
  { Purging.refl s with }

theorem purgeOne_purging (b : Bool) (k : PocketNo) (s : State) : ∃ mid, Purging mid s (purgeOne b k s) := by
  unfold purgeOne
  split
  · exact ⟨[], .refl s⟩
  · next p hp =>
    have hcounted := (purgeRelease_purging k p s).trans (tallyUnsorted_purging _)
    cases b
    · exact ⟨_, hcounted.trans (setRecord_purging _ _ _)⟩
    · obtain ⟨mid, hmid⟩ := handReport_purging
        (reportOf (tallyCount tallyUnsorted (purgeRelease k p s)) .unsorted k p true) ⟨rfl, rfl⟩
        (tallyCount tallyUnsorted (purgeRelease k p s))
      exact ⟨_, (hcounted.trans hmid).trans (setRecord_purging _ _ _)⟩

theorem purge_purging (load : Nat) (b : Bool) (s : State) : ∃ mid, Purging mid s (purge load b s) := by
  have hfold (xs : List PocketNo) (t : State) : ∃ mid, Purging mid t (xs.foldl (fun u k => purgeOne b k u) t) := by
    induction xs generalizing t with
    | nil => exact ⟨[], .refl t⟩
    | cons k xs ih =>
      obtain ⟨a, ha⟩ := purgeOne_purging b k t
      obtain ⟨c, hc⟩ := ih (purgeOne b k t)
      exact ⟨_, ha.trans hc⟩
  exact hfold _ s

/-- A purge without reports leaves the report queue. -/
theorem purge_silent (load : Nat) (s : State) : (purge load false s).report = s.report := by
  have hone (k : PocketNo) (t : State) : (purgeOne false k t).report = t.report := by
    unfold purgeOne
    split <;> simp
  exact foldl_keeps (fun t : State => t.report) (fun t k => purgeOne false k t) (fun t k => hone k t) _ s

/-- Each purged record counts once at UNSORTED, below its largest value. -/
theorem purge_unsorted (load : Nat) (b : Bool) (s : State)
    (h : s.tally[tallyUnsorted] + recordsWith (fun _ => true) s ≤ 4294967295) :
    (purge load b s).tally[tallyUnsorted] = s.tally[tallyUnsorted] + recordsWith (fun _ => true) s := by
  have hone (k : PocketNo) (t : State) (ht : t.tally[tallyUnsorted] + recordsWith (fun _ => true) t ≤ 4294967295) :
      (purgeOne b k t).tally[tallyUnsorted] + recordsWith (fun _ => true) (purgeOne b k t) =
        t.tally[tallyUnsorted] + recordsWith (fun _ => true) t := by
    have hcount := recordsWith_set (test := fun _ => true) (purgeOne_ring b k t)
    cases hk : t.ring[k] with
    | none => rw [purgeOne, hk]
    | some p =>
      have hpos := recordsWith_pos (test := fun _ => true) (k := k) (s := t) (by rw [hk]; rfl)
      have htally : (purgeOne b k t).tally[tallyUnsorted] = satInc 4294967295 t.tally[tallyUnsorted] := by
        rw [purgeOne, hk]
        cases b
        · exact (tallyCount_self _ _).trans (by simp)
        · simp only [if_true, setRecord_keeps, handReport_keeps]
          exact (tallyCount_self _ _).trans (by simp)
      rw [hk] at hcount
      simp only [Option.any_some, Option.any_none, shifted, Bool.true_eq_false, Bool.false_eq_true, if_false] at hcount
      rw [htally, hcount, satInc, if_pos (by omega)]
      omega
  have hfold (xs : List PocketNo) (t : State) (ht : t.tally[tallyUnsorted] + recordsWith (fun _ => true) t ≤ 4294967295) :
      (xs.foldl (fun u k => purgeOne b k u) t).tally[tallyUnsorted] +
          recordsWith (fun _ => true) (xs.foldl (fun u k => purgeOne b k u) t) =
        t.tally[tallyUnsorted] + recordsWith (fun _ => true) t := by
    induction xs generalizing t with
    | nil => rfl
    | cons k xs ih => exact (ih _ ((hone k t ht).trans_le ht)).trans (hone k t ht)
  have hall := hfold (purgeOrder s.geo load) s h
  change (purge load b s).tally[tallyUnsorted] + recordsWith (fun _ => true) (purge load b s) = _ at hall
  rw [recordsWith_empty (purge_at load b s)] at hall
  exact hall

/-! ## The reports of a purge with room -/

/-- The report of the record in a pocket, where there is one. -/
def purgedReport (s : State) (k : PocketNo) : Option OutFrame :=
  (s.ring[k]).map fun p => .part (reportAs s .unsorted k p true)

/-- With room, a purge of one pocket hands the report of its record and drops none. -/
theorem purgeOne_report (k : PocketNo) (s : State) (h : fill s + recordsWith (fun _ => true) s ≤ 28) :
    (purgeOne true k s).report = { s.report with queue := s.report.queue ++ (purgedReport s k).toList } ∧
      (purgeOne true k s).counters = s.counters ∧
      fill (purgeOne true k s) + recordsWith (fun _ => true) (purgeOne true k s) ≤ 28 := by
  cases hk : s.ring[k] with
  | none => simpa [purgeOne, purgedReport, hk] using h
  | some p =>
    have hpos := recordsWith_pos (test := fun _ => true) (k := k) (s := s) (by rw [hk]; rfl)
    have hcount := recordsWith_set (test := fun _ => true) (purgeOne_ring true k s)
    rw [hk] at hcount
    simp only [Option.any_some, Option.any_none, shifted, Bool.true_eq_false, Bool.false_eq_true, if_false] at hcount
    have hfill : fill (tallyCount tallyUnsorted (purgeRelease k p s)) = fill s := by simp [fill]
    have hreport : reportOf (tallyCount tallyUnsorted (purgeRelease k p s)) .unsorted k p true =
        reportAs s .unsorted k p true := by
      rw [reportOf_eq]
      simp [reportAs, precReadings]
    have hone : purgeOne true k s = setRecord k none (enqueue (.part (reportAs s .unsorted k p true))
        (tallyCount tallyUnsorted (purgeRelease k p s))) := by
      rw [purgeOne, hk]
      simp only [if_true]
      rw [hreport, handReport, if_pos (by rw [hfill]; simp [Config.partAllowance]; omega)]
    have hqueue : (purgeOne true k s).report =
        { s.report with queue := s.report.queue ++ [.part (reportAs s .unsorted k p true)] } := by
      rw [hone]
      simp [enqueue]
    refine ⟨by simpa [purgedReport, hk] using hqueue, by rw [hone]; simp, ?_⟩
    rw [hcount, fill, hqueue]
    simp only [fill] at h
    simp only [List.length_append, List.length_singleton]
    omega

theorem purgedReport_purgeOne {j k : PocketNo} (h : j ≠ k) (s : State) :
    purgedReport (purgeOne true k s) j = purgedReport s j := by
  have hring : (purgeOne true k s).ring[j] = s.ring[j] := by
    rw [purgeOne_ring, Fin.getElem_fin, Vector.getElem_set_ne _ _ (fun e => h (Fin.ext e.symm))]
    rfl
  rw [purgedReport, purgedReport, hring]
  simp [reportAs, precReadings]

/-- With room, a purge of a list of pockets hands the reports of their records in that order. -/
theorem purgeFold_report (xs : List PocketNo) (hxs : xs.Nodup) (s : State)
    (h : fill s + recordsWith (fun _ => true) s ≤ 28) :
    (xs.foldl (fun t k => purgeOne true k t) s).report =
        { s.report with queue := s.report.queue ++ xs.filterMap (purgedReport s) } ∧
      (xs.foldl (fun t k => purgeOne true k t) s).counters = s.counters := by
  induction xs generalizing s with
  | nil => exact ⟨by simp, rfl⟩
  | cons k xs ih =>
    obtain ⟨hk, hnodup⟩ := List.nodup_cons.mp hxs
    obtain ⟨hreport, hcounters, hroom⟩ := purgeOne_report k s h
    obtain ⟨hrest, hcounters'⟩ := ih hnodup _ hroom
    have hsame : xs.filterMap (purgedReport (purgeOne true k s)) = xs.filterMap (purgedReport s) :=
      List.filterMap_congr fun j hj => purgedReport_purgeOne (ne_of_mem_of_not_mem hj hk) s
    refine ⟨?_, hcounters'.trans hcounters⟩
    rw [List.foldl_cons, hrest, hreport, hsame]
    cases hp : purgedReport s k <;> simp [hp]

theorem pocketFrom_injective {g : Geometry} (h : g.pn ≤ 128) (load : Nat) {a b : Nat} (ha : a < g.pn) (hb : b < g.pn)
    (he : pocketFrom g load a = pocketFrom g load b) : a = b := by
  have hval := congrArg Fin.val he
  rw [pocketFrom_val (by omega) h, pocketFrom_val (by omega) h] at hval
  have hmod : (load + g.pn - a) ≡ (load + g.pn - b) [MOD g.pn] := hval
  have hsum : (load + g.pn - a) + (a + b) ≡ (load + g.pn - b) + (a + b) [MOD g.pn] := hmod.add_right _
  have ha' : (load + g.pn - a) + (a + b) = (load + g.pn) + b := by omega
  have hb' : (load + g.pn - b) + (a + b) = (load + g.pn) + a := by omega
  rw [ha', hb'] at hsum
  have hab : b ≡ a [MOD g.pn] := Nat.ModEq.add_left_cancel' _ hsum
  exact (Nat.ModEq.eq_of_lt_of_lt hab hb ha).symm

theorem purgeOrder_nodup {g : Geometry} (h : g.pn ≤ 128) (load : Nat) : (purgeOrder g load).Nodup := by
  refine List.nodup_append.mpr ⟨?_, (List.nodup_finRange 128).filter _, ?_⟩
  · refine List.Nodup.map_on (fun a ha b hb he => ?_) (List.nodup_reverse.mpr List.nodup_range)
    exact pocketFrom_injective h load (by simpa using ha) (by simpa using hb) he
  · intro k hk j hj he
    subst he
    obtain ⟨e, he, rfl⟩ := List.mem_map.mp hk
    have hlt : e < g.pn := by simpa using he
    have hval := pocketFrom_val (g := g) (by omega) h load e
    have hge : g.pn ≤ (pocketFrom g load e).val := by simpa using hj
    have := Nat.mod_lt (load + g.pn - e) (show 0 < g.pn by omega)
    omega

/-- With room, a purge hands one report for each record, in decreasing offset, and drops none. -/
theorem purge_reports (load : Nat) {s : State} (hpn : s.geo.pn ≤ 128)
    (hbeyond : ∀ k : PocketNo, s.geo.pn ≤ k.val → s.ring[k] = none) (h : fill s + recordsWith (fun _ => true) s ≤ 28) :
    (purge load true s).report = { s.report with queue := s.report.queue ++ purgeReports s load } ∧
      (purge load true s).counters = s.counters := by
  obtain ⟨hreport, hcounters⟩ := purgeFold_report _ (purgeOrder_nodup hpn load) s h
  have horder : (purgeOrder s.geo load).filterMap (purgedReport s) = purgeReports s load := by
    have hrest : ((List.finRange 128).filter fun k => decide (s.geo.pn ≤ k.val)).filterMap (purgedReport s) = [] := by
      refine List.filterMap_eq_nil_iff.mpr fun k hk => ?_
      rw [purgedReport, hbeyond k (by simpa using hk)]
      rfl
    rw [purgeOrder, List.filterMap_append, hrest, List.append_nil, List.filterMap_map, purgeReports, recordsFrom,
      List.map_filterMap]
    refine List.filterMap_congr fun e _ => ?_
    simp only [Function.comp, purgedReport, Option.map_map]
    rfl
  exact ⟨horder ▸ hreport, hcounters⟩

/-- Settles O35. -/
theorem purgeFreesEveryRecord : Obligations.PurgeFreesEveryRecord := by
  unfold Obligations.PurgeFreesEveryRecord
  intro load reports s
  refine ⟨purge_at load reports s, fun h => purge_inUse h load reports, fun h => purge_reserved h load reports,
    fun h => purge_queue h load reports, fun hr hpos hbeyond hroom => ?_, fun hr => ?_⟩
  · obtain ⟨⟨-, hpn⟩, -⟩ := hpos
    rw [hr]
    exact (purge_reports load hpn hbeyond hroom).1
  · rw [hr]
    exact purge_silent load s

end Sys2Proof.Machine
end

section
/-!
PROOF. What RUN-RESET and STOP leave (O4, O5).
-/

namespace Sys2Proof.Machine

/-- The tracker in IDLE. -/
def idleFirst (s : State) : State := s.setTrk { s.trk with st := .idle }

/-- The purge of an announcement of IDLE: from the state with the tracker in IDLE. -/
def idlePurge (b : Bool) (s : State) : State := purge (loadPocket s) b (idleFirst s)

theorem idlePurge_purging (b : Bool) (s : State) : ∃ mid, Purging mid s (idlePurge b s) := by
  obtain ⟨mid, h⟩ := purge_purging (loadPocket s) b (idleFirst s)
  exact ⟨mid, ⟨h.report, h.frames, h.enables, h.flags, h.counters, h.tally, h.lanes, h.tables, h.store⟩⟩

theorem recordsWith_idleFirst (s : State) : recordsWith (fun _ => true) (idleFirst s) = recordsWith (fun _ => true) s := rfl

theorem idlePurge_inUse (b : Bool) {s : State} (h : InUseMatches s) (id : BankId) :
    (bankAt (idlePurge b s).banks id).inUse = 0 :=
  purge_inUse (s := idleFirst s) (show InUseMatches s from h) (loadPocket s) b id

theorem idlePurge_reserved (b : Bool) {s : State} (h : ReservedMatches s) (l : LaneNo) :
    (idlePurge b s).lanes[l].reserved = 0 :=
  purge_reserved (s := idleFirst s) (fun j => h j) (loadPocket s) b l

theorem idlePurge_queue (b : Bool) {s : State} (h : ConfirmQueuesMatch s) (l : LaneNo) : (idlePurge b s).lanes[l].queue = [] :=
  purge_queue (s := idleFirst s) (fun j => h j) (loadPocket s) b l

theorem idlePurge_unsorted (b : Bool) {s : State}
    (h : s.tally[tallyUnsorted] + recordsWith (fun _ => true) s ≤ 4294967295) :
    (idlePurge b s).tally[tallyUnsorted] = s.tally[tallyUnsorted] + recordsWith (fun _ => true) s := by
  have hcount := purge_unsorted (loadPocket s) b (idleFirst s)
  rw [recordsWith_idleFirst] at hcount
  exact hcount h

theorem idlePurge_reports {s : State} (hpn : s.geo.pn ≤ 128)
    (hbeyond : ∀ k : PocketNo, s.geo.pn ≤ k.val → s.ring[k] = none) (h : fill s + recordsWith (fun _ => true) s ≤ 28) :
    (idlePurge true s).report = { s.report with queue := s.report.queue ++ purgeReports s (loadPocket s) } ∧
      (idlePurge true s).counters = s.counters :=
  purge_reports (loadPocket s) (s := idleFirst s) hpn hbeyond h

/-- The announcement of IDLE, besides the counts, reports and flags that its purge moves. -/
theorem announceIdle_parts (b : Bool) (s : State) :
    (announceIdle b s).trk = { s.trk with st := .idle } ∧ (announceIdle b s).loadPause = false ∧
      (announceIdle b s).mask = liveMask s.mask ∧
      (∀ m : StationNo, (announceIdle b s).stations[m] = { s.stations[m] with pulseEnd := none }) ∧
      (announceIdle b s).banks = (idlePurge b s).banks ∧
      (∀ l : LaneNo, (announceIdle b s).lanes[l] = idleOn (idlePurge b s).lanes[l]) ∧
      (announceIdle b s).report = (idlePurge b s).report ∧ (announceIdle b s).events = (idlePurge b s).events ∧
      (announceIdle b s).tally = (idlePurge b s).tally ∧ (announceIdle b s).counters = (idlePurge b s).counters := by
  refine ⟨?_, ?_, ?_, fun m => ?_, ?_, fun l => ?_, ?_, ?_, ?_, ?_⟩
  all_goals simp [announceIdle, idlePurge, idleFirst, mapLanes]

/-- What both leave of the tracker's records, counts and settings. -/
structure IdleLeaves (s t : State) : Prop where
  trk : t.trk = { s.trk with st := .idle }
  geo : t.geo = s.geo
  ring : ∀ k : PocketNo, t.ring[k] = none
  serial : t.serial = s.serial
  loadPause : t.loadPause = false
  mask : t.mask = liveMask s.mask
  tables : ∀ id, (bankAt t.banks id).table = (bankAt s.banks id).table ∧
    (bankAt t.banks id).generation = (bankAt s.banks id).generation ∧ (InUseMatches s → (bankAt t.banks id).inUse = 0)
  store : t.banks.live = s.banks.live ∧ t.banks.generation = s.banks.generation ∧ t.banks.lock = s.banks.lock
  lanes : ∀ l : LaneNo, t.lanes[l].attr = s.lanes[l].attr ∧ t.lanes[l].capacity = s.lanes[l].capacity ∧
    t.lanes[l].delivered = s.lanes[l].delivered ∧ t.lanes[l].setup = s.lanes[l].setup ∧
    t.lanes[l].output = .inactive .rested ∧ (ReservedMatches s → t.lanes[l].reserved = 0) ∧
    (ConfirmQueuesMatch s → t.lanes[l].queue = [])
  overflow : t.overflow = s.overflow
  rx : t.rx = s.rx
  tally : ∀ i : Fin 49, i ≠ tallyUnsorted → t.tally[i] = s.tally[i]
  unsorted : s.tally[tallyUnsorted] + recordsWith (fun _ => true) s ≤ 4294967295 →
    t.tally[tallyUnsorted] = s.tally[tallyUnsorted] + recordsWith (fun _ => true) s
  enables : t.events.enables = s.events.enables
  rest : t.pins = s.pins ∧ t.choice = s.choice ∧ t.pending = s.pending

theorem announceIdle_leaves (b : Bool) (s : State) : IdleLeaves s (announceIdle b s) := by
  obtain ⟨htrk, hpause, hmask, -, hbanks, hlanes, -, hevents, htally, -⟩ := announceIdle_parts b s
  obtain ⟨mid, hp⟩ := idlePurge_purging b s
  exact {
    trk := htrk
    geo := by simp
    ring := announceIdle_at b s
    serial := by simp
    loadPause := hpause
    mask := hmask
    tables := fun id => by
      rw [hbanks]
      exact ⟨(hp.tables id).1, (hp.tables id).2, fun h => idlePurge_inUse b h id⟩
    store := by
      rw [hbanks]
      exact hp.store
    lanes := fun l => by
      obtain ⟨h1, h2, h3, h4⟩ := hp.lanes l
      rw [hlanes]
      exact ⟨h1, h2, h3, h4, rfl, fun h => idlePurge_reserved b h l, fun h => idlePurge_queue b h l⟩
    overflow := by simp
    rx := by simp
    tally := fun i hi => by
      rw [htally]
      exact hp.tally i hi
    unsorted := fun h => by
      rw [htally]
      exact idlePurge_unsorted b h
    enables := by
      rw [hevents]
      exact hp.enables
    rest := by simp }

/-- What a run reset does after its announcement of IDLE. -/
def resetLinks (s1 : State) : State :=
  let s2 := ((s1.setStations (s1.stations.map runResetStation)).setInbound []).setCounters Counters.reset
  ((s2.setTx Transmitter.reset).setReport
      { s2.report with queue := [], replyPlace := false, noticePlace := false, stalled := false }).setEvents
    { s2.events with flags := 0, noticePending := false, noticeFirst := false }

theorem runResetState_eq (s : State) : runResetState s = resetLinks (announceIdle false s) := rfl

/-- The links' reset and the REPLY move nothing that the announcement leaves. -/
theorem IdleLeaves.reset {s u : State} (h : IdleLeaves s u) (f : Frame) (a : Answer) :
    IdleLeaves s (placeReply f a (resetLinks u)) := by
  obtain ⟨hgeo, htrk, hring, hserial, hpause, hbanks, hlanes, hoverflow, hmask, hrx, htally, henables, hpins, hchoice,
    hpending⟩ : (placeReply f a (resetLinks u)).geo = u.geo ∧ (placeReply f a (resetLinks u)).trk = u.trk ∧
      (placeReply f a (resetLinks u)).ring = u.ring ∧ (placeReply f a (resetLinks u)).serial = u.serial ∧
      (placeReply f a (resetLinks u)).loadPause = u.loadPause ∧ (placeReply f a (resetLinks u)).banks = u.banks ∧
      (placeReply f a (resetLinks u)).lanes = u.lanes ∧ (placeReply f a (resetLinks u)).overflow = u.overflow ∧
      (placeReply f a (resetLinks u)).mask = u.mask ∧ (placeReply f a (resetLinks u)).rx = u.rx ∧
      (placeReply f a (resetLinks u)).tally = u.tally ∧
      (placeReply f a (resetLinks u)).events.enables = u.events.enables ∧
      (placeReply f a (resetLinks u)).pins = u.pins ∧ (placeReply f a (resetLinks u)).choice = u.choice ∧
      (placeReply f a (resetLinks u)).pending = u.pending := by
    simp [resetLinks, placeReply, enqueue]
  generalize placeReply f a (resetLinks u) = t at *
  exact {
    trk := htrk.trans h.trk
    geo := hgeo.trans h.geo
    ring := hring ▸ h.ring
    serial := hserial.trans h.serial
    loadPause := hpause.trans h.loadPause
    mask := hmask.trans h.mask
    tables := hbanks ▸ h.tables
    store := hbanks ▸ h.store
    lanes := hlanes ▸ h.lanes
    overflow := hoverflow.trans h.overflow
    rx := hrx.trans h.rx
    tally := htally ▸ h.tally
    unsorted := htally ▸ h.unsorted
    enables := henables.trans h.enables
    rest := ⟨hpins.trans h.rest.1, hchoice.trans h.rest.2.1, hpending.trans h.rest.2.2⟩ }

/-- What the links and the counters hold after the reset and its REPLY. -/
theorem resetLinks_values (f : Frame) (a : Answer) (s : State) :
    (placeReply f a (resetLinks s)).inbound = [] ∧ (placeReply f a (resetLinks s)).tx = Transmitter.reset ∧
      (placeReply f a (resetLinks s)).events.flags = 0 ∧ (placeReply f a (resetLinks s)).events.noticePending = false ∧
      (placeReply f a (resetLinks s)).counters = Counters.reset ∧
      (placeReply f a (resetLinks s)).stations = s.stations.map runResetStation ∧
      (placeReply f a (resetLinks s)).report = { s.report with
        queue := [.reply (frameTag f) (frameCode f) a], replyPlace := false, noticePlace := false, stalled := false } := by
  simp [resetLinks, placeReply, enqueue]

theorem runReset_of_runReset {s : State} {f : Frame} (hhead : s.inbound.head? = some f) (hr : isRunReset f = true) :
    runReset s = takeRunReset f s := by
  unfold runReset
  cases hin : s.inbound with
  | nil => simp [hin] at hhead
  | cons g rest =>
    obtain rfl : g = f := by simpa [hin] using hhead
    exact if_pos hr

/-- Settles O4. -/
theorem runResetLeaves : Obligations.RunResetLeaves := by
  unfold Obligations.RunResetLeaves
  intro f before s hs hhead hw
  obtain ⟨hin, hcode, hlen⟩ := hhead
  have hr : isRunReset f = true := (isRunReset_iff f).mpr ⟨hcode, (Option.some.inj hlen).symm, hw⟩
  have hexec : exec .runReset before = .next (placeReply f (answer .ok) (resetLinks (announceIdle false s))) := by
    rw [hs] at hin ⊢
    exact congrArg Host.Outcome.next (runReset_of_runReset hin hr)
  have hidle := (announceIdle_leaves false s).reset f (answer .ok)
  obtain ⟨-, -, -, hstations, -, -, hreport, -⟩ := announceIdle_parts false s
  have hsilent : (announceIdle false s).report = s.report := hreport.trans (purge_silent _ _)
  obtain ⟨hinbound, htx, hflags, hpending, hcounters, hmap, hqueue⟩ :=
    resetLinks_values f (answer .ok) (announceIdle false s)
  have hmapped (m : StationNo) : (placeReply f (answer .ok) (resetLinks (announceIdle false s))).stations[m] =
      { s.stations[m] with seq := 0, temp := none, expired := [], pulseEnd := none } := by
    have hat : (placeReply f (answer .ok) (resetLinks (announceIdle false s))).stations[m] =
        runResetStation (announceIdle false s).stations[m] := by
      rw [hmap]
      simp
    rw [hat, hstations]
    rfl
  rw [hsilent, hcode] at hqueue
  exact ⟨_, hexec, hidle.geo, hidle.trk, hidle.ring, hidle.serial, hidle.loadPause, hmapped, hidle.tables, hidle.store,
    hidle.lanes, hidle.overflow, hidle.mask, hidle.rx, hinbound, htx, hqueue, hidle.tally, hidle.unsorted,
    ⟨hflags, hidle.enables, hpending⟩, hcounters, hidle.rest⟩

theorem settled_noticePlace (s : State) : (settled s).report.noticePlace = false := opened_noticePlace _

/-- Settles O5. -/
theorem stopLeaves : Obligations.StopLeaves := by
  unfold Obligations.StopLeaves
  intro f before s hs hhead hw hp
  have horder : runOrderOf (firstArg f) = some .stop := (runOrderOf_eq_some _ _).mpr hw
  have hexec {u : State} {a : Answer} (ha : actStop f (keepPlace s) = (u, a)) :=
    exec_replied (c := .stop) rfl hs hhead hp (runArg_of_order horder) ha
  have hact : actStop f (keepPlace s) = _ := forRunOrder_of_order horder
  refine ⟨fun hst => hexec (u := keepPlace s) (hact.trans (if_pos hst)), fun hst => ?_⟩
  have hstop : exec .stop before = .next (replied f (answer .ok) (announceIdle true (keepPlace s))) :=
    hexec (hact.trans (if_neg hst))
  have hidle := announceIdle_leaves true (keepPlace s)
  obtain ⟨-, -, -, hstations, -, -, hreport, hevents, -, hcounters⟩ := announceIdle_parts true (keepPlace s)
  obtain ⟨mid, hpurge⟩ := idlePurge_purging true (keepPlace s)
  have hinbound : (announceIdle true (keepPlace s)).inbound = s.inbound := by simp
  have htx : (announceIdle true (keepPlace s)).tx = s.tx := by simp
  have hroom (hpos : PositionInRange s) (hplaced : RecordsInPlace s)
      (hroom : s.report.queue.length + recordsWith (fun _ => true) s < 28) :
      mid = purgeReports s (loadPocket s) ∧ (announceIdle true (keepPlace s)).counters = s.counters := by
    obtain ⟨⟨-, hpn⟩, -⟩ := hpos
    have hnotice : s.report.noticePlace = false := hs ▸ settled_noticePlace before
    have hfill : fill (keepPlace s) = s.report.queue.length + 1 := by simp [fill, hnotice]
    obtain ⟨hqueue, hsame⟩ := idlePurge_reports (s := keepPlace s) hpn hplaced.2 (by
      rw [hfill]
      change _ + recordsWith (fun _ => true) s ≤ 28
      omega)
    have hboth := congrArg ReportQueue.queue (hpurge.report.symm.trans hqueue)
    exact ⟨List.append_cancel_left hboth, hcounters.trans hsame⟩
  have hqueued : (announceIdle true (keepPlace s)).report =
      { s.report with queue := s.report.queue ++ mid, replyPlace := true } := hreport.trans hpurge.report
  have hflags (i : Fin 14) (hi : i.val ≠ 13) :
      (announceIdle true (keepPlace s)).events.flags.getLsbD i = s.events.flags.getLsbD i := by
    rw [hevents]
    exact hpurge.flags i hi
  have hcounted : (announceIdle true (keepPlace s)).counters =
      { s.counters with reportDrop := (announceIdle true (keepPlace s)).counters.reportDrop } := by
    rw [hcounters]
    exact hpurge.counters
  generalize announceIdle true (keepPlace s) = u at *
  refine ⟨replied f (answer .ok) u, hstop, hidle.geo, hidle.trk, hidle.ring, hidle.serial, hidle.loadPause, hstations,
    hidle.tables, hidle.store, hidle.lanes, hidle.overflow, hidle.mask, hidle.rx, congrArg List.tail hinbound, htx,
    ⟨mid, ?_, hpurge.frames, hroom⟩, hidle.tally, hidle.unsorted, hidle.enables, hflags, hcounted, hidle.rest⟩
  simp only [replied]
  rw [hqueued, hhead.2.1]
  rfl

end Sys2Proof.Machine
end

section
/-!
PROOF. The acts at phase and pitch events: load, trigger, fire, delivery, departure and pass check (O36, O37, O39, O40), and
the deadlines (O38).
-/

namespace Sys2Proof.Machine

/-! ## The load sample -/

theorem nextSerial_eq (n : BitVec 32) : nextSerial n = if n.toNat = 4294967295 then 1 else n + 1 := by
  have h : n = 0xFFFFFFFF ↔ n.toNat = 4294967295 := by rw [← BitVec.toNat_inj]; rfl
  simp only [nextSerial, h]

/-- Settles O36. -/
theorem loadSampled : Obligations.LoadSampled := by
  unfold Obligations.LoadSampled
  refine fun s => ⟨fun hphase ht hm hpause hpps hfree => ?_, fun hnot => ?_⟩
  · have hload : loaden s = true := by simp [loaden, isTracking, ht, hm, hpause]
    refine ⟨newPart s, rfl, rfl, rfl, rfl, rfl, fun m => ?_, ?_⟩
    · simp [newPart, newSlots]
    · rw [← nextSerial_eq]
      exact if_pos ⟨hphase, hload, hpps, hfree⟩
  · obtain he | ⟨⟨hphase, hload, hpps, -⟩, -⟩ := loadSample_cases s
    · exact he
    · obtain ⟨⟨ht, hm⟩, hpause⟩ : (s.trk.st = .tracking ∧ s.mask.masked = false) ∧ s.loadPause = false := by
        simpa [loaden, isTracking] using hload
      obtain h | h | h | h | h := hnot
      · exact absurd hphase h
      · exact absurd ht h
      · rw [hm] at h; cases h
      · rw [hpause] at h; cases h
      · rw [hpps] at h; cases h

/-! ## Points past a re-alignment, and one station or lane changed -/

/-- The travel at which a point is taken, in the statement's form. -/
theorem movedPast_eq (e : Option Travel) (f : Travel) (n : Nat) : movedPast e f (f + BitVec.ofNat 32 n) = pointAfter e f n := by
  cases e with
  | none => rfl
  | some x =>
    have h : f + BitVec.ofNat 32 n - f = BitVec.ofNat 32 n := by rw [BitVec.add_comm, BitVec.add_sub_cancel]
    simp only [movedPast, pointAfter, withinSpan, h, decide_eq_true_eq]

theorem modStation_congr {m : StationNo} {g h : Station → Station} {s : State} (hgh : g s.stations[m] = h s.stations[m]) :
    modStation m g s = modStation m h s := by rw [modStation, hgh, modStation]

theorem modLane_congr {l : LaneNo} {g h : Lane → Lane} {s : State} (hgh : g s.lanes[l] = h s.lanes[l]) :
    modLane l g s = modLane l h s := by rw [modLane, hgh, modLane]

/-! ## Triggers -/

/-- An unresolved value in a slot leaves the record waiting. -/
theorem writeSlot_unresolved {k : PocketNo} {m : StationNo} {x : Slot} {p : Part} {s : State} (hp : s.ring[k] = some p)
    (ha : p.st = .await) (hx : isResolved x = false) :
    writeSlot k m x s = setRecord k (some { p with slots := p.slots.set m (some x) }) s := by
  rw [writeSlot_eq hp ha]
  refine classify_of_unresolved (setRecord_at_self _ _ _) (Bool.eq_false_iff.mpr fun hall => ?_)
  have hself := (allResolved_iff _).mp hall m x (by simp)
  rw [hx] at hself
  cases hself

/-- A station with no record to trigger does nothing. -/
theorem triggerPhase_idle (e : Option Travel) {m : StationNo} {s : State}
    (h : s.stations[m].role = .none ∨ phase s ≠ s.stations[m].trigPhase ∨ s.geo.pn ≤ s.stations[m].offset ∨
      ∀ p, s.ring[pocketAt s s.stations[m].offset] = some p → p.st ≠ .await ∨ p.slots[m] ≠ some .waiting) :
    triggerPhase e m s = s := by
  unfold triggerPhase
  dsimp only
  split
  · next hdue =>
    obtain ⟨hrole, hphase, hon⟩ := hdue
    have hnone := ((h.resolve_left hrole).resolve_left (not_not.mpr hphase)).resolve_left (by omega)
    split
    · rfl
    · next p hp =>
      refine if_neg fun ⟨ha, hw⟩ => ?_
      obtain hna | hnw := hnone p hp
      · exact hna ha
      · exact hnw hw
  · rfl

/-- Settles O37. -/
theorem triggerIssued : Obligations.TriggerIssued := by
  unfold Obligations.TriggerIssued
  intro e m s x hx
  subst hx
  refine ⟨fun p hrole hphase hon hp ha hw => ?_, triggerPhase_idle e⟩
  have hdue : triggerPhase e m s =
      if s.stations[m].role = .prec ∧ s.stations[m].skip ∧ contactFailed p.slots then
        writeSlot (pocketAt s s.stations[m].offset) m .skipped s
      else
        modStation m
          (fun y => { y with seq := y.seq + 1, pulseEnd := some (movedPast e s.trk.travel (s.trk.travel + BitVec.ofNat 32 s.stations[m].trigWidth)) })
          (writeSlot (pocketAt s s.stations[m].offset) m (.outstanding (s.stations[m].seq + 1)) s) := by
    unfold triggerPhase
    dsimp only
    rw [if_pos ⟨hrole, hphase, hon⟩, hp]
    exact if_pos ⟨ha, hw⟩
  refine ⟨fun hprec hskip hfail t ht => ?_, fun hnot => ?_⟩
  · subst ht
    rw [hdue, if_pos ⟨hprec, hskip, hfail⟩]
    exact ⟨fun hothers => writeSlot_waits hp ha rfl hothers, fun _ => writeSlot_eq hp ha⟩
  · rw [hdue, if_neg, writeSlot_unresolved hp ha rfl]
    · rw [movedPast_eq]
      exact modStation_congr rfl
    · rintro ⟨hprec, hskip, hfail⟩
      obtain h | h | h := hnot
      · exact h hprec
      · rw [hskip] at h; cases h
      · rw [hfail] at h; cases h

/-! ## Deadlines -/

theorem addExpired_eq (q : BitVec 8) (xs : List (BitVec 8)) :
    addExpired q xs = (if xs.length ≤ 7 then xs else xs.tail) ++ [q] := by
  unfold addExpired
  dsimp only
  rw [List.length_append, List.length_singleton]
  split
  · rw [if_neg (by omega)]
    cases xs with
    | nil => simp at *
    | cons y ys => rfl
  · rw [if_pos (by omega)]

theorem exec_deadlineExpiry (m : StationNo) (s : State) :
    exec (.deadlineExpiry m) s = .next (takeDeadline m (opened s)) := rfl

/-- The pocket of a deadline, where the tracker is in TRACKING and the offset lies on the turret. -/
theorem deadlinePocket_eq (s : State) (m : StationNo) : deadlinePocket s m =
    if s.trk.st = .tracking ∧ s.stations[m].role ≠ .none ∧ s.stations[m].offset + s.stations[m].deadline < s.geo.pn then
      some (pocketAt s (s.stations[m].offset + s.stations[m].deadline)) else none := by
  simp [deadlinePocket, isTracking]

/-- Settles O38. -/
theorem deadlineExpires : Obligations.DeadlineExpires := by
  unfold Obligations.DeadlineExpires
  intro m before s k hs hk
  rw [exec_deadlineExpiry, ← hs]
  have hpocket := deadlinePocket_eq s m
  refine ⟨fun p ht hrole hon hp ha => ?_, fun hnot => ?_⟩
  · rw [if_pos ⟨ht, hrole, hon⟩, ← hk] at hpocket
    refine ⟨fun q hq => ?_, fun hw => ?_⟩
    · refine ⟨if s.stations[m].expired.length ≤ 7 then s.stations[m].expired else s.stations[m].expired.tail, _, rfl,
        fun h => if_pos h, fun h => if_neg (by omega), ?_⟩
      have hstation : modStation m (fun y => { y with expired := addExpired q y.expired }) s =
          modStation m (fun y => { y with expired := (if s.stations[m].expired.length ≤ 7 then s.stations[m].expired
            else s.stations[m].expired.tail) ++ [q] }) s :=
        modStation_congr (by rw [addExpired_eq])
      rw [← hstation]
      unfold takeDeadline
      rw [hpocket]
      dsimp only
      rw [hp]
      dsimp only
      rw [if_pos ha, hq]
      dsimp only
      rw [writeSlot_eq (p := p) (by simpa using hp) ha]
    · unfold takeDeadline
      rw [hpocket]
      dsimp only
      rw [hp]
      dsimp only
      rw [if_pos ha, hw]
      dsimp only
      rw [writeSlot_eq hp ha]
  · refine congrArg Host.Outcome.next ?_
    by_cases hdue : s.trk.st = .tracking ∧ s.stations[m].role ≠ .none ∧
        s.stations[m].offset + s.stations[m].deadline < s.geo.pn
    · obtain ⟨ht, hrole, hon⟩ := hdue
      have hall := ((hnot.resolve_left (not_not.mpr ht)).resolve_left hrole).resolve_left (by omega)
      rw [if_pos ⟨ht, hrole, hon⟩, ← hk] at hpocket
      unfold takeDeadline
      rw [hpocket]
      dsimp only
      split
      · rfl
      · next p hp =>
        split
        · next ha =>
          split
          · next q hq => cases hall p hp ha _ hq
          · next hq => cases hall p hp ha _ hq
          · rfl
        · rfl
    · rw [if_neg hdue] at hpocket
      unfold takeDeadline
      rw [hpocket]

/-! ## Fires -/

/-- A fire on an inactive lane opens a run. -/
theorem fireOutput_opens (e : Option Travel) (f : Travel) {L : Lane} {rest : Rest} (h : L.output = .inactive rest) :
    ∃ run n, (fireOutput e f L).output = .active run ∧ run.first = f ∧ run.last = f ∧ run.fires = 1 ∧
      (run.rested = true ↔ rest = .rested ∨ ∃ mark, rest = .since mark ∧ L.setup.restDist ≤ (f - mark).toNat) ∧
      n = max (L.setup.width + if run.rested then L.setup.firstShot else 0) (max L.setup.width 1) ∧
      run.closePoint = f + BitVec.ofNat 32 n ∧ run.closeAt = pointAfter e f n := by
  have hclose : closePointOf L.setup f f 1 (isRested L.setup f rest) = f + BitVec.ofNat 32
      (max (L.setup.width + if isRested L.setup f rest then L.setup.firstShot else 0) (max L.setup.width 1)) := by
    simp [closePointOf]
  refine ⟨_, _, by unfold fireOutput; rw [h], rfl, rfl, rfl, ?_, rfl, hclose, ?_⟩
  · cases rest <;> simp [isRested]
  · dsimp only
    rw [hclose, movedPast_eq]

/-- A fire on an active lane merges into its run. -/
theorem fireOutput_merges (e : Option Travel) (f : Travel) {L : Lane} {old : Run} (h : L.output = .active old) :
    ∃ run, (fireOutput e f L).output = .active run ∧ run.first = old.first ∧ run.last = f ∧ run.fires = old.fires + 1 ∧
      run.rested = old.rested ∧
      (1 ≤ old.fires → ∀ d, d = (f - old.first).toNat →
        run.closePoint = old.first + BitVec.ofNat 32
          (max (L.setup.width + if old.rested then L.setup.firstShot else 0)
            (max (d + L.setup.width - L.setup.tailTrim) (d + 1)))) ∧
      run.closeAt = run.closePoint := by
  refine ⟨{ old with
      last := f, fires := old.fires + 1
      closePoint := closePointOf L.setup old.first f (old.fires + 1) old.rested
      closeAt := closePointOf L.setup old.first f (old.fires + 1) old.rested },
    by unfold fireOutput; rw [h], rfl, rfl, rfl, rfl, fun hfires d hd => ?_, rfl⟩
  subst hd
  simp [closePointOf, hfires]

/-- The output after a fire goes by the lane's output and setup alone. -/
theorem fireOutput_of_same (e : Option Travel) (f : Travel) {L M : Lane} (hout : M.output = L.output)
    (hset : M.setup = L.setup) : fireOutput e f M = { M with output := (fireOutput e f L).output } := by
  have hsame : (fireOutput e f M).output = (fireOutput e f L).output := by
    unfold fireOutput
    rw [hout, hset]
    cases L.output <;> rfl
  rw [fireOutput_eq, hsame]

/-- Settles O39. -/
theorem fireTakenDecided : Obligations.FireTaken := by
  unfold Obligations.FireTaken
  intro e l s L k f hL hk hf
  subst hL hf hk
  refine ⟨fun p v c hphase hon hp hst hc hm hattr => ?_, fun hnot => ?_⟩
  · have htaken : Machine.fireTaken l c s = true := by simpa [Machine.fireTaken, hc, hm] using hattr
    have hfire : firePhase e l s =
        if s.lanes[l].setup.confirm then
          modLane l
            (fun M => fireOutput e s.trk.travel { M with queue := M.queue ++ [{ pocket := pocketAt s s.lanes[l].setup.offset, fire := s.trk.travel, windowEnd := s.trk.travel + BitVec.ofNat 32 M.setup.window }] })
            (setRecord (pocketAt s s.lanes[l].setup.offset) (some { p with st := .fired v c }) s)
        else modLane l (fireOutput e s.trk.travel) (deliver l (pocketAt s s.lanes[l].setup.offset) p s) := by
      unfold firePhase
      dsimp only
      rw [if_pos ⟨hphase, hon⟩, hp]
      dsimp only
      rw [hst]
      exact if_pos htaken
    generalize pocketAt s s.lanes[l].setup.offset = k at *
    refine ⟨(fireOutput e s.trk.travel s.lanes[l]).output, if s.lanes[l].setup.confirm then
      setRecord k (some { p with st := .fired v c }) s else deliver l k p s,
      fun hoff => ⟨if_neg (Bool.eq_false_iff.mp hoff), ?_⟩, fun hon' => ⟨if_pos hon', fun x hxk hxf hxw => ?_⟩,
      fun rest => fireOutput_opens e s.trk.travel, fun old => fireOutput_merges e s.trk.travel⟩
    · have hlane : (deliver l k p s).lanes[l] = deliverOn s.lanes[l] := by
        rw [deliver_lanes, modLane_self]
      rw [hfire, if_neg (Bool.eq_false_iff.mp hoff), if_neg (Bool.eq_false_iff.mp hoff)]
      refine modLane_congr ?_
      rw [hlane]
      exact fireOutput_of_same e _ rfl rfl
    · obtain ⟨xk, xf, xw⟩ := x
      dsimp only at hxk hxf hxw
      subst hxk hxf hxw
      rw [hfire, if_pos hon', if_pos hon']
      refine modLane_congr ?_
      exact fireOutput_of_same e _ rfl rfl
  · by_cases hphase : phase s = s.lanes[l].setup.firePhase
    · obtain he | ⟨j, p, v, c, hj, hon, hp, hst, hc, hm, hattr, -⟩ := firePhase_cases e l s
      · exact he
      · obtain h | h | h | h | h := hnot
        · exact absurd hphase h
        · omega
        · rw [hm] at h; cases h
        · exact absurd h hattr
        · exact absurd hc (h p v c (hj ▸ hp) hst)
    · exact if_neg fun h => hphase h.1

/-! ## Delivery, departure and pass check -/

theorem deliverOn_eq (L : Lane) : deliverOn L = { L with reserved := L.reserved - 1, delivered := oneMore L.delivered } := rfl

theorem passReason_eq (s : State) (l : LaneNo) : passReason s l = reasonUnfired s.lanes[l] := rfl

/-- A report whose readings and format a change of other blocks leaves. -/
theorem reportOf_same {s t : State} (hs : t.stations = s.stations) (hf : t.report.formatTwo = s.report.formatTwo)
    (o : OutcomeKind) (k : PocketNo) (p : Part) (b : Bool) : reportOf t o k p b = reportAs s o k p b := by
  rw [reportOf_eq, reportAs, reportAs, precReadings, precReadings, hs, hf]

/-- A departure: its count, its report and the freeing. -/
theorem depart_eq {s t : State} (hs : t.stations = s.stations) (hf : t.report.formatTwo = s.report.formatTwo)
    (o : OutcomeKind) (k : PocketNo) (p : Part) : depart o k p t = setRecord k none (handReport (reportAs s o k p false)
      (tallyCount (if o = .dumped then tallyDumped else tallyUnsorted) t)) := by
  rw [depart]
  rw [reportOf_same (s := s) (by simp [hs]) (by simp [hf])]

/-- Settles O40. -/
theorem recordsLeaveTheRing : Obligations.RecordsLeaveTheRing := by
  unfold Obligations.RecordsLeaveTheRing
  intro k p s
  refine ⟨fun l => ⟨_, rfl, ?_⟩, fun hp hk => ?_, fun hnone => ?_, fun l v c hon hk hp hst hc => ?_, fun l hnot => ?_⟩
  · rw [deliver]
    rw [reportOf_same (s := s) (by simp) (by simp)]
    rfl
  · subst hk
    have hdeparture : departure s = departRecord (pocketAt s s.geo.dumpOffset) p s := by rw [departure, hp]
    rw [hdeparture, departRecord]
    cases hst : p.st with
    | await =>
      exact ⟨unbind p.bank s, p, .unsorted, depart_eq (by simp) (by simp [unbind]) _ _ _, fun _ => ⟨rfl, rfl, rfl⟩, by simp, by simp, by simp⟩
    | routed v c =>
      refine ⟨_, _, .unsorted, depart_eq (s := s) (by simp) (by simp) _ _ _, by simp, fun v' c' h => ?_, by simp, by simp⟩
      obtain ⟨rfl, rfl⟩ := PartState.routed.inj h
      exact ⟨rfl, rfl, rfl⟩
    | fired v c =>
      refine ⟨_, _, .unsorted, depart_eq (s := s) (by simp) (by simp) _ _ _, by simp, by simp, fun v' c' h => ?_, by simp⟩
      obtain ⟨rfl, rfl⟩ := PartState.fired.inj h
      exact ⟨rfl, rfl, _, rfl, rfl⟩
    | stranded v c why =>
      refine ⟨_, _, _, depart_eq (s := s) rfl rfl _ _ _, by simp, by simp, by simp, fun v' c' why' h => ?_⟩
      obtain ⟨rfl, rfl, rfl⟩ := PartState.stranded.inj h
      exact ⟨rfl, rfl, rfl⟩
  · rw [departure, hnone]
  · subst hk
    unfold passCheck
    dsimp only
    rw [if_pos hon, hp]
    dsimp only
    rw [hst]
    exact if_pos hc
  · by_cases hon : s.lanes[l].setup.offset + 1 < s.geo.pn
    · have hnone := hnot.resolve_left (by omega)
      unfold passCheck
      dsimp only
      rw [if_pos hon]
      split
      · next q hq =>
        split
        · next v c hst => exact if_neg (hnone q v c hq hst)
        · rfl
      · rfl
    · exact if_neg hon

end Sys2Proof.Machine
end

section
/-!
PROOF. The travel points (O41), the missing index and SLIP (O34), drops and window ends (O42).
-/

namespace Sys2Proof.Machine

/-! ## The travel points, one by one -/

theorem exec_triggerEnd (m : StationNo) (s : State) : exec (.triggerEnd m) s = .next (takeTriggerEnd m s) := rfl

theorem exec_runClose (l : LaneNo) (s : State) : exec (.runClose l) s = .next (takeClose l s) := rfl

theorem exec_restPoint (l : LaneNo) (s : State) : exec (.restPoint l) s = .next (takeRestPoint l s) := rfl

theorem exec_windowEnd (l : LaneNo) (s : State) : exec (.windowEnd l) s = .next (takeWindowEnd l (opened s)) := rfl

theorem isTracking_iff (s : State) : isTracking s = true ↔ s.trk.st = .tracking := by simp [isTracking]

/-- Away from its travel or outside TRACKING a point is not due. -/
theorem not_pointDue {s : State} {a b : Travel} (h : s.trk.st ≠ .tracking ∨ a ≠ b) : ¬ (isTracking s = true ∧ a = b) := by
  rw [isTracking_iff]
  exact fun ⟨ht, he⟩ => h.elim (fun h => h ht) fun h => h he

theorem takeTriggerEnd_due {m : StationNo} {s : State} (ht : s.trk.st = .tracking)
    (h : s.stations[m].pulseEnd = some s.trk.travel) :
    takeTriggerEnd m s = modStation m (fun x => { x with pulseEnd := none }) s := if_pos ⟨(isTracking_iff s).mpr ht, h⟩

theorem takeTriggerEnd_notDue {m : StationNo} {s : State}
    (h : s.trk.st ≠ .tracking ∨ s.stations[m].pulseEnd ≠ some s.trk.travel) : takeTriggerEnd m s = s :=
  if_neg fun ⟨ht, he⟩ => h.elim (fun h => h ((isTracking_iff s).mp ht)) fun h => h he

theorem takeClose_of_active {l : LaneNo} {s : State} {run : Run} (h : s.lanes[l].output = .active run) :
    takeClose l s = if isTracking s ∧ run.closeAt = s.trk.travel then
      modLane l (fun L => { L with output := .inactive (restFrom L.setup s.trk.travel) }) s else s := by
  unfold takeClose
  rw [h]

theorem takeClose_of_inactive {l : LaneNo} {s : State} (h : isActive s.lanes[l] = false) : takeClose l s = s := by
  unfold takeClose
  unfold isActive at h
  cases ho : s.lanes[l].output with
  | active run => rw [ho] at h; cases h
  | inactive rest => rfl

theorem takeRestPoint_of_since {l : LaneNo} {s : State} {mark : Travel} (h : s.lanes[l].output = .inactive (.since mark)) :
    takeRestPoint l s = if isTracking s ∧ mark + BitVec.ofNat 32 s.lanes[l].setup.restDist = s.trk.travel then
      modLane l (fun L => { L with output := .inactive .rested }) s else s := by
  unfold takeRestPoint
  rw [h]

theorem takeRestPoint_of_no_mark {l : LaneNo} {s : State} (h : ∀ mark, s.lanes[l].output ≠ .inactive (.since mark)) :
    takeRestPoint l s = s := by
  unfold takeRestPoint
  split
  · next mark ho => exact absurd ho (h mark)
  · rfl

/-! ## The points' commands in a row -/

theorem runAll_append (a b : List Instr) (s : State) : runAll (a ++ b) s = runAll b (runAll a s) := List.foldl_append

/-- The commands of the points, run one after the other, take the points. -/
theorem runAll_pointCommands (s : State) : runAll pointCommands s = takePoints s := by
  have hlanes (xs : List LaneNo) (t : State) :
      runAll (xs.flatMap fun l => [.runClose l, .windowEnd l, .restPoint l]) t = xs.foldl (fun u l => finishLane l u) t := by
    induction xs generalizing t with
    | nil => rfl
    | cons l xs ih =>
      rw [List.flatMap_cons, runAll_append, ih]
      rfl
  rw [pointCommands, runAll_append, runAll_append, hlanes, runAll, runAll, List.foldl_map, List.foldl_map, takePoints,
    allStations_eq_finRange]
  rfl

theorem missingIndexDue_iff (s : State) : missingIndexDue s = true ↔
    s.trk.st = .tracking ∧ s.trk.travel = s.trk.indexRef + BitVec.ofNat 32 (s.geo.c + s.geo.ti + 1) := by
  simp [missingIndexDue, isTracking]

theorem not_missingIndexDue {s : State}
    (h : s.trk.st ≠ .tracking ∨ s.trk.travel ≠ s.trk.indexRef + BitVec.ofNat 32 (s.geo.c + s.geo.ti + 1)) :
    ¬ missingIndexDue s = true := by
  rw [missingIndexDue_iff]
  exact fun ⟨ht, he⟩ => h.elim (fun h => h ht) fun h => h he

/-- Settles O41. -/
theorem travelPointsTaken : Obligations.TravelPointsTaken := by
  unfold Obligations.TravelPointsTaken
  refine fun s => ⟨fun m => ⟨fun ht h => ?_, fun h => ?_⟩, fun l => ⟨fun run hrun => ⟨fun ht h => ?_, fun h => ?_⟩, fun h => ?_,
    fun mark hmark => ⟨fun ht h => ?_, fun h => ?_⟩, fun h => ?_⟩, fun u hu => ⟨fun ht h => ?_, fun h => ?_⟩,
    settled_idle, ?_, fun m => ⟨rfl, rfl⟩, fun l => ⟨rfl, rfl, rfl⟩⟩
  · rw [exec_triggerEnd, takeTriggerEnd_due ht h]
  · rw [exec_triggerEnd, takeTriggerEnd_notDue h]
  · have hrest : modLane l (fun L => { L with output := .inactive (restFrom L.setup s.trk.travel) }) s =
        modLane l (fun L => { L with
          output := if L.setup.restDist = 0 then .inactive .rested else .inactive (.since s.trk.travel) }) s := by
      refine congrArg (fun g => modLane l g s) (funext fun L => ?_)
      by_cases h0 : L.setup.restDist = 0 <;> simp [restFrom, h0]
    rw [exec_runClose, takeClose_of_active hrun, if_pos ⟨(isTracking_iff s).mpr ht, h⟩, hrest]
  · rw [exec_runClose, takeClose_of_active hrun, if_neg (not_pointDue h)]
  · rw [exec_runClose, takeClose_of_inactive h]
  · rw [exec_restPoint, takeRestPoint_of_since hmark, if_pos ⟨(isTracking_iff s).mpr ht, h.symm⟩]
  · rw [exec_restPoint, takeRestPoint_of_since hmark, if_neg (not_pointDue (h.imp_right Ne.symm))]
  · rw [exec_restPoint, takeRestPoint_of_no_mark h]
  · rw [settled, ← runAll_pointCommands, ← hu, takeMissingIndex, if_pos ((missingIndexDue_iff u).mpr ⟨ht, h⟩)]
  · rw [settled, ← runAll_pointCommands, ← hu, takeMissingIndex, if_neg (not_missingIndexDue h)]
  · rw [takeTravelPoints, allStations_eq_finRange]
    rfl

/-! ## SLIP -/

/-- What a SLIP leaves. -/
theorem slip_leaves (load : Nat) (u : State) :
    (slip load u).trk = { u.trk with lag := 0, indexRef := u.trk.travel, armed := true } ∧
    (∀ k : PocketNo, (slip load u).ring[k] = none) ∧
    (slip load u).mask = (addReason true false false u).mask ∧
    (slip load u).events.flags.getLsbD 0 = true ∧ (u.mask.masked = false → (slip load u).events.flags.getLsbD 2 = true) ∧
    (∀ l : LaneNo, (slip load u).lanes[l].delivered = u.lanes[l].delivered) ∧ (slip load u).serial = u.serial ∧
    (slip load u).stations = u.stations ∧ (slip load u).geo = u.geo ∧ (slip load u).inbound = u.inbound ∧
    (slip load u).loadPause = u.loadPause := by
  obtain ⟨mid, hp⟩ := purge_purging load true (u.setTrk { u.trk with lag := 0, indexRef := u.trk.travel, armed := true })
  have hring := purge_at load true (u.setTrk { u.trk with lag := 0, indexRef := u.trk.travel, armed := true })
  have hmask : (purge load true (u.setTrk { u.trk with lag := 0, indexRef := u.trk.travel, armed := true })).mask = u.mask := by
    simp
  refine ⟨by simp [slip], fun k => ?_, ?_, raise_flag_self .slip _, fun hm => ?_, fun l => ?_, by simp [slip], by simp [slip],
    by simp [slip], by simp [slip], by simp [slip]⟩
  · have hsame : (slip load u).ring = (purge load true
        (u.setTrk { u.trk with lag := 0, indexRef := u.trk.travel, armed := true })).ring := by simp [slip, motionFault]
    rw [hsame]
    exact hring k
  · have hsame : (slip load u).mask = (addReason true false false (purge load true
        (u.setTrk { u.trk with lag := 0, indexRef := u.trk.travel, armed := true }))).mask := by simp [slip, motionFault]
    rw [hsame, addReason_mask, addReason_mask, hmask]
  · rw [slip, raise_flag_other .slip _ (by decide), motionFault, addReason, if_neg (by rw [hmask, hm]; simp)]
    exact raise_flag_self .maskEnter _
  · obtain ⟨o, ho⟩ := addReason_lane true false false
      (purge load true (u.setTrk { u.trk with lag := 0, indexRef := u.trk.travel, armed := true })) l
    obtain ⟨-, -, hdelivered, -⟩ := hp.lanes l
    have hsame : (slip load u).lanes = (addReason true false false (purge load true
        (u.setTrk { u.trk with lag := 0, indexRef := u.trk.travel, armed := true }))).lanes := by simp [slip, motionFault]
    rw [hsame, ho]
    exact hdelivered

theorem exec_slipMissingIndex (s : State) : exec .slipMissingIndex s =
    .next (if missingIndexDue s then takeMissingIndex (takePoints s) else s) := rfl

/-- Settles O34. -/
theorem missingIndexSlips : Obligations.MissingIndexSlips := by
  unfold Obligations.MissingIndexSlips
  refine ⟨fun s u hu => ⟨fun ht h => ?_, fun h => ?_⟩, fun load u t ht => ?_⟩
  · have hdue : missingIndexDue s = true := (missingIndexDue_iff s).mpr ⟨ht, h⟩
    have hkeep : missingIndexDue (takePoints s) = true := by simpa [missingIndexDue, isTracking] using hdue
    rw [runAll_pointCommands] at hu
    have hload : loadPocket (takePoints s) = loadPocket u := by rw [hu]; simp [loadPocket, markPos]
    rw [exec_slipMissingIndex, if_pos hdue, takeMissingIndex, if_pos hkeep, ← hu, hload]
  · rw [exec_slipMissingIndex, if_neg (not_missingIndexDue h)]
  · subst ht
    obtain ⟨htrk, hring, hmask, hrest⟩ := slip_leaves load u
    refine ⟨htrk, hring, ?_, hrest⟩
    rw [hmask, addReason_mask]
    by_cases hm : u.mask.masked = true
    · simp [hm]
    · simp [hm]

/-! ## Drops and window ends -/

theorem dropEdge_stray {l : LaneNo} {s : State} (h : s.lanes[l].queue = []) : dropEdge l s = raise .stray (countStray s) := by
  unfold dropEdge
  rw [h]

/-- A drop confirms the oldest entry, whose FIRED record is delivered. -/
theorem dropEdge_confirms {l : LaneNo} {s : State} {e : ConfirmEntry} {rest : List ConfirmEntry} {p : Part} {v : Verdict}
    {c : Target} (hq : s.lanes[l].queue = e :: rest) (hp : s.ring[e.pocket] = some p) (hst : p.st = .fired v c)
    (hc : c.lane = l) : dropEdge l s = deliver l e.pocket p (modLane l (fun L => { L with queue := rest }) s) := by
  have hring : (modLane l (fun L => { L with queue := rest }) s).ring[e.pocket] = some p := by simpa using hp
  unfold dropEdge
  rw [hq]
  dsimp only
  unfold confirmRecord
  rw [hring]
  dsimp only
  rw [hst]
  exact if_pos hc

/-- A FIRED record of the lane is missed. -/
theorem missRecord_fired {l : LaneNo} {k : PocketNo} {s : State} {p : Part} {v : Verdict} {c : Target}
    (hp : s.ring[k] = some p) (hst : p.st = .fired v c) (hc : c.lane = l) : missRecord l k s =
      modLane l releaseOn (setRecord k (some { p with st := .stranded v (some c) .miss }) s) := by
  unfold missRecord
  rw [hp]
  dsimp only
  rw [hst]
  exact if_pos hc

theorem exec_drop (l : LaneNo) (s : State) : exec (.drop l) s = .next (dropEdge l (settled s)) := rfl

/-- Settles O42. -/
theorem dropsAndWindowEnds : Obligations.DropsAndWindowEnds := by
  unfold Obligations.DropsAndWindowEnds
  refine fun l before s => ⟨fun hs => ⟨fun hq => ?_, fun e rest p v c hq hp hst hc => ?_⟩,
    fun hs => ⟨fun hq => ?_, fun e rest p v c hq hp hst hc => ⟨fun ht hdue => ⟨_, _, rfl, rfl, ?_⟩, fun hnot => ?_⟩⟩⟩
  · rw [exec_drop, ← hs, dropEdge_stray hq]
    rfl
  · rw [exec_drop, ← hs, dropEdge_confirms hq hp hst hc]
  · rw [exec_windowEnd, ← hs]
    unfold takeWindowEnd
    rw [hq]
  · have hring : (raise .ejectMiss (countEjectMiss (modLane l (fun L => { L with queue := rest }) s))).ring[e.pocket] =
        some p := by simpa using hp
    rw [exec_windowEnd, ← hs]
    unfold takeWindowEnd
    rw [hq]
    dsimp only
    rw [if_pos ⟨(isTracking_iff s).mpr ht, hdue⟩, missRecord_fired hring hst hc]
    rfl
  · rw [exec_windowEnd, ← hs]
    unfold takeWindowEnd
    rw [hq]
    dsimp only
    rw [if_neg (not_pointDue hnot)]

end Sys2Proof.Machine
end

section
/-!
PROOF. Encoder counts and the index: the counts that do not advance the mark (O30), the advance (O31), homing (O32) and the
index check (O33).
-/

namespace Sys2Proof.Machine

/-! ## Positions modulo C -/

theorem posAfter_natCast (s : State) (n : Nat) : posAfter s n = (s.trk.pos + n) % s.geo.c := by
  rw [posAfter]
  have h : ((s.trk.pos : Int) + n) % s.geo.c = ((s.trk.pos + n) % s.geo.c : Nat) := by push_cast; rfl
  rw [h]
  rfl

theorem posAfter_one (s : State) : posAfter s 1 = (s.trk.pos + 1) % s.geo.c := posAfter_natCast s 1

theorem posAfter_zero {s : State} (h : s.trk.pos < s.geo.c) : posAfter s 0 = s.trk.pos :=
  (posAfter_natCast s 0).trans (Nat.mod_eq_of_lt h)

theorem posAfter_neg_one {s : State} (h : 0 < s.geo.c) : posAfter s (-1) = (s.trk.pos + s.geo.c - 1) % s.geo.c := by
  have hsum : ((s.trk.pos + s.geo.c - 1 : Nat) : Int) = (s.trk.pos : Int) + -1 + s.geo.c := by omega
  rw [posAfter, ← Int.add_emod_right, ← hsum]
  rfl

theorem posAfter_lt {s : State} (h : 0 < s.geo.c) (n : Int) : posAfter s n < s.geo.c := by
  have hlt := Int.emod_lt_of_pos ((s.trk.pos : Int) + n) (b := s.geo.c) (by omega)
  rw [posAfter]
  omega

/-- The mark moved on is the statement's. -/
theorem advance_eq_markEvents (e : Option Travel) (s : State) : advance e s = markEvents e (markMoved s) := by
  rw [advance_eq, markEvents, markMoved, posAfter_one]
  rfl

/-! ## The steps of the encoder -/

/-- The count of a step. -/
def stepCount : CountStep → Int
  | .none => 0
  | .forward => 1
  | .backward => -1

/-- The step is the row of R1's table. -/
theorem countOf_eq (s : State) (a b : Bool) : countOf s a b = stepCount (quadStep s.geo.mode s.trk.quadA s.trk.quadB a b) := by
  have htable : ∀ x y a b : Bool,
      (match countTable.find? fun r => r.1 == (x, y) && r.2.1 == (a, b) with
        | some (_, _, x4, x2, x1) => (match s.geo.mode with | .x4 => x4 | .x2 => x2 | .x1 => x1)
        | none => 0) = stepCount (quadStep s.geo.mode x y a b) := by
    cases s.geo.mode <;> decide
  exact htable _ _ _ _

/-- A count at a state: PPS and the new pair are taken, and the step is. -/
theorem exec_encoderCount (a b pps : Bool) (s : State) : exec (.encoderCount a b pps) s =
    .next (encoderChange a b (seePps pps (settled s))) := rfl

theorem encoderChange_eq (a b pps : Bool) (s : State) : encoderChange a b (seePps pps s) =
    match quadStep s.geo.mode s.trk.quadA s.trk.quadB a b with
    | .none => counted a b pps s
    | .forward => if isTracking (counted a b pps s) then forwardTracking (counted a b pps s)
        else (counted a b pps s).setTrk { (counted a b pps s).trk with pos := posUp (counted a b pps s) }
    | .backward => if isTracking (counted a b pps s) then backwardTracking (counted a b pps s)
        else (counted a b pps s).setTrk { (counted a b pps s).trk with pos := posDown (counted a b pps s) } := rfl

section
variable {a b pps : Bool} {s : State}

theorem encoderChange_none (h : countOf s a b = 0) : encoderChange a b (seePps pps s) = counted a b pps s := by
  rw [countOf_eq] at h
  rw [encoderChange_eq]
  cases hstep : quadStep s.geo.mode s.trk.quadA s.trk.quadB a b
  · rfl
  · rw [hstep] at h; cases h
  · rw [hstep] at h; cases h

theorem encoderChange_forward (h : countOf s a b = 1) (ht : s.trk.st = .tracking) :
    encoderChange a b (seePps pps s) = forwardTracking (counted a b pps s) := by
  rw [countOf_eq] at h
  rw [encoderChange_eq]
  cases hstep : quadStep s.geo.mode s.trk.quadA s.trk.quadB a b
  · rw [hstep] at h; cases h
  · exact if_pos ((isTracking_iff (counted a b pps s)).mpr ht)
  · rw [hstep] at h; cases h

theorem encoderChange_backward (h : countOf s a b = -1) (ht : s.trk.st = .tracking) :
    encoderChange a b (seePps pps s) = backwardTracking (counted a b pps s) := by
  rw [countOf_eq] at h
  rw [encoderChange_eq]
  cases hstep : quadStep s.geo.mode s.trk.quadA s.trk.quadB a b
  · rw [hstep] at h; cases h
  · rw [hstep] at h; cases h
  · exact if_pos ((isTracking_iff (counted a b pps s)).mpr ht)

/-- Outside TRACKING a count moves pos alone. -/
theorem encoderChange_untracked (hpos : s.trk.pos < s.geo.c) (ht : s.trk.st ≠ .tracking) :
    encoderChange a b (seePps pps s) = (counted a b pps s).setTrk
      { (counted a b pps s).trk with pos := posAfter s (countOf s a b) } := by
  have hnot : ¬ isTracking (counted a b pps s) = true := mt (isTracking_iff (counted a b pps s)).mp ht
  rw [encoderChange_eq, countOf_eq]
  cases quadStep s.geo.mode s.trk.quadA s.trk.quadB a b with
  | none =>
    rw [stepCount, posAfter_zero hpos]
    rfl
  | forward =>
    rw [stepCount, posAfter_one]
    exact if_neg hnot
  | backward =>
    rw [stepCount, posAfter_neg_one (by omega)]
    exact if_neg hnot

end

theorem backwardTracking_slips {t : State} (h : t.geo.c ≤ t.trk.lag + 1) :
    backwardTracking t = slip (loadPocket t) (t.setTrk { t.trk with pos := posDown t }) := if_pos h

theorem backwardTracking_calm {t : State} (h : t.trk.lag + 1 < t.geo.c)
    (hcalm : t.trk.lag + 1 ≤ t.geo.h ∨ t.trk.armed = false) :
    backwardTracking t = t.setTrk { t.trk with pos := posDown t, lag := t.trk.lag + 1 } := by
  rw [backwardTracking, if_neg (Nat.not_le.mpr h)]
  refine if_neg ?_
  rintro ⟨hbeyond, harmed⟩
  obtain hle | hoff := hcalm
  · exact absurd hbeyond (Nat.not_lt.mpr hle)
  · exact absurd (harmed.symm.trans hoff) (by decide)

theorem backwardTracking_reverse {t : State} (h : t.trk.lag + 1 < t.geo.c) (hbeyond : t.geo.h < t.trk.lag + 1)
    (harmed : t.trk.armed = true) :
    backwardTracking t = raiseReverse (t.setTrk { t.trk with pos := posDown t, lag := t.trk.lag + 1 }) := by
  rw [backwardTracking, if_neg (Nat.not_le.mpr h)]
  exact if_pos ⟨hbeyond, harmed⟩

/-- The fault REVERSE at the mask. -/
theorem motionFault_reverse (u : State) :
    (u.mask.masked = false → motionFault .reverse u =
      enterMask (u.setMask { u.mask with slip := false, reverse := true, forced := false, clean := 0 })) ∧
    (u.mask.masked = true → motionFault .reverse u = u.setMask { u.mask with reverse := true, clean := 0 }) := by
  refine ⟨fun h => if_neg (by simp [h]), fun h => ?_⟩
  rw [motionFault, addReason, if_pos h]
  simp

/-- Settles O30. -/
theorem countsWithoutAdvance : Obligations.CountsWithoutAdvance := by
  unfold Obligations.CountsWithoutAdvance
  refine ⟨motionFault_reverse, fun a b pps before s t hs hrange ht => ?_⟩
  subst ht
  obtain ⟨-, ⟨hc, -⟩, -, hpos, -⟩ := hrange
  rw [exec_encoderCount, ← hs]
  refine ⟨fun hst => by rw [encoderChange_untracked hpos hst], fun hst => ⟨fun h => by rw [encoderChange_none h], fun h hlag => ?_,
    fun h hroom u hu => ⟨fun hcalm => ?_, fun hbeyond harmed => ?_⟩, fun h hover => ?_⟩⟩
  · rw [encoderChange_forward h hst, posAfter_one]
    exact congrArg Host.Outcome.next (if_pos hlag)
  all_goals
    have hdown : posAfter s (-1) = posDown (counted a b pps s) := posAfter_neg_one (by omega)
  · rw [encoderChange_backward h hst, hu, hdown, backwardTracking_calm (t := counted a b pps s) hroom hcalm]
    rfl
  · rw [encoderChange_backward h hst, hu, hdown, backwardTracking_reverse (t := counted a b pps s) hroom hbeyond harmed]
    rfl
  · rw [encoderChange_backward h hst, hdown, backwardTracking_slips (t := counted a b pps s) hover]
    rfl

/-! ## The advance -/

theorem markEvents_keeps (e : Option Travel) (u : State) : (markEvents e u).trk = u.trk ∧
    (markEvents e u).pins = u.pins ∧ (markEvents e u).geo = u.geo := by
  unfold markEvents
  split <;> simp

/-- The deadlines that a pitch event takes, where one is due. -/
theorem contestedDeadlines_cases (u : State) : contestedDeadlines u = u ∨ (∃ m, deadlineDue u m = true) ∧
    (contestedDeadlines u = u.setChoice (u.choice + 1) ∨
      contestedDeadlines u = allStations.foldl (fun x m => takeDeadline m x) (u.setChoice (u.choice + 1))) := by
  unfold contestedDeadlines
  split
  · next hcontested =>
    have hany := (Bool.and_eq_true _ _ ▸ hcontested : _ ∧ _).1
    obtain ⟨m, -, hm⟩ := List.any_eq_true.mp hany
    dsimp only
    split
    · exact .inr ⟨⟨m, hm⟩, .inr rfl⟩
    · exact .inr ⟨⟨m, hm⟩, .inl rfl⟩
  · exact .inl rfl

/-- Settles O31. -/
theorem markAdvances : Obligations.MarkAdvances := by
  unfold Obligations.MarkAdvances
  refine ⟨fun a b pps before s u hs hrange hst hone hlag hu => ?_, fun e u => ?_, fun u => ⟨contestedDeadlines u, rfl, ?_⟩⟩
  · obtain ⟨-, ⟨hc, -⟩, -, -, -⟩ := hrange
    obtain ⟨htrk, hpins, hgeo⟩ := markEvents_keeps none u
    refine ⟨?_, htrk, hpins, hgeo.trans (by rw [hu]; rfl), ?_⟩
    · rw [exec_encoderCount, ← hs, encoderChange_forward hone hst, hu, ← advance_eq_markEvents]
      exact congrArg Host.Outcome.next (if_neg (show ¬ 0 < s.trk.lag by omega))
    · have hmark : markPos u = posAfter s 1 := by
        have hpos : markPos u = (posAfter s 1 + s.trk.lag) % s.geo.c := by rw [hu]; rfl
        rw [hpos, hlag, Nat.add_zero, Nat.mod_eq_of_lt (posAfter_lt (by omega) 1)]
      have hpitch : pitch u.geo = pitch s.geo := by rw [hu]; rfl
      rw [phase, hmark, hpitch]
  · rw [phaseEvent, allStations_eq_finRange]
    rfl
  · rw [← allStations_eq_finRange]
    exact contestedDeadlines_cases u

/-! ## Homing -/

section
variable {pps : Bool} {before s : State}

theorem exec_indexEvent_idle (hs : s = settled before) (h : s.trk.st = .idle) :
    exec (.indexEvent pps) before = .next (seePps pps s) := by
  change execIndexEvent pps before = _
  unfold execIndexEvent
  rw [← hs]
  dsimp only
  rw [show (seePps pps s).trk.st = .idle from h]

theorem exec_indexEvent_homing (hs : s = settled before) (h : s.trk.st = .homing) :
    exec (.indexEvent pps) before = .next (home (seePps pps s)) := by
  change execIndexEvent pps before = _
  unfold execIndexEvent
  rw [← hs]
  dsimp only
  rw [show (seePps pps s).trk.st = .homing from h]

theorem exec_indexEvent_tracking (hs : s = settled before) (h : s.trk.st = .tracking) :
    exec (.indexEvent pps) before = .next (indexTracking (seePps pps s)) := by
  change execIndexEvent pps before = _
  unfold execIndexEvent
  rw [← hs]
  dsimp only
  rw [show (seePps pps s).trk.st = .tracking from h]

end

/-- Settles O32. -/
theorem indexHomes : Obligations.IndexHomes := by
  unfold Obligations.IndexHomes
  intro pps before s t hs ht
  refine ⟨fun hst => ?_, fun hst u hu => ?_⟩
  · rw [exec_indexEvent_idle hs hst, ht]
    rfl
  · have hhome : exec (.indexEvent pps) before =
        .next (if u.mask.masked then mapLanes (maskEntryOn u.trk.travel) u else u) := by
      rw [exec_indexEvent_homing hs hst, hu, ht]
      rfl
    have hmask : u.mask = s.mask := by rw [hu, ht]; rfl
    have hlanes : u.lanes = s.lanes := by rw [hu, ht]; rfl
    refine ⟨fun hm => ?_, fun hm => ⟨mapLanes (maskEntryOn u.trk.travel) u, ?_, rfl, fun l => ?_⟩⟩
    · rw [hhome, if_neg (by simp [hmask, hm])]
    · rw [hhome, if_pos (by simp [hmask, hm])]
    · have hlane : (mapLanes (maskEntryOn u.trk.travel) u).lanes[l] = maskEntryOn u.trk.travel s.lanes[l] := by
        rw [← hlanes]
        simp [mapLanes]
      obtain ⟨hsame, hother⟩ := maskEntryOn_output u.trk.travel s.lanes[l]
      rw [hlane]
      exact ⟨maskEntryOn_eq _ _, hsame, fun h => (hother h).1⟩

/-! ## The index check -/

/-- A clean revolution at a mask that stands. -/
theorem cleanRevolution_masked {u : State} (hm : u.mask.masked = true) : cleanRevolution u =
    if u.mask.auto = true ∧ u.mask.n ≤ satInc 15 u.mask.clean ∧ u.mask.forced = false then
      exitMask (u.setMask { u.mask with clean := satInc 15 u.mask.clean })
    else u.setMask { u.mask with clean := satInc 15 u.mask.clean } := by
  unfold cleanRevolution
  rw [if_pos hm]
  refine if_congr ?_ rfl rfl
  rw [Bool.and_eq_true, Bool.and_eq_true, decide_eq_true_iff, Bool.not_eq_true', and_assoc]
  rfl

/-- The signed circular distance is the one residue in its range. -/
theorem indexDelta_unique {c capture offset : Nat} {δ : Int} (hc : capture < c) (ho : offset < c)
    (hmod : ((capture : Int) - offset - δ) % c = 0) (hlo : -(c : Int) ≤ 2 * δ) (hhi : 2 * δ < c) :
    indexDelta c capture offset = δ := by
  obtain ⟨k, hk⟩ := Int.dvd_of_emod_eq_zero hmod
  have hd : (capture + c - offset) % c = if offset ≤ capture then capture - offset else capture + c - offset := by
    split
    · next h => rw [show capture + c - offset = capture - offset + c by omega, Nat.add_mod_right, Nat.mod_eq_of_lt (by omega)]
    · exact Nat.mod_eq_of_lt (by omega)
  have hk2 : k < 2 := by
    by_contra h
    have : (c : Int) * 2 ≤ c * k := Int.mul_le_mul_of_nonneg_left (by omega) (by omega)
    omega
  have hk' : -2 < k := by
    by_contra h
    have : (c : Int) * k ≤ c * (-2) := Int.mul_le_mul_of_nonneg_left (by omega) (by omega)
    omega
  obtain rfl | rfl | rfl : k = -1 ∨ k = 0 ∨ k = 1 := by omega
  all_goals
    rw [indexDelta, hd]
    split <;> split <;> omega

/-- The positions of a forward re-alignment, one after the other. -/
def spanState (e : Travel) (s : State) (i : Nat) : State :=
  (fun u => takeTravelPoints (advance (some e) u))^[i] s

theorem advanceSpan_eq (e : Travel) (k : Nat) (s : State) : advanceSpan e k s = spanState e s k := by
  induction k generalizing s with
  | zero => rfl
  | succ k ih =>
    rw [advanceSpan, ih, spanState, spanState, Function.iterate_succ_apply]

theorem spanState_succ (e : Travel) (s : State) (i : Nat) :
    spanState e s (i + 1) = takeTravelPoints (markEvents (some e) (markMoved (spanState e s i))) := by
  rw [← advance_eq_markEvents]
  exact Function.iterate_succ_apply' _ _ _

/-- After i positions the mark and travel stand i further, and the detector is armed. -/
theorem spanState_trk (e : Travel) (s : State) (i : Nat) : (spanState e s i).geo = s.geo ∧
    (spanState e s (i + 1)).trk = { s.trk with
      pos := (s.trk.pos + (i + 1)) % s.geo.c, travel := s.trk.travel + BitVec.ofNat 32 (i + 1), armed := true } := by
  have hstep (u : State) : (takeTravelPoints (markEvents (some e) (markMoved u))).geo = u.geo ∧
      (takeTravelPoints (markEvents (some e) (markMoved u))).trk =
        { u.trk with pos := (u.trk.pos + 1) % u.geo.c, travel := u.trk.travel + 1, armed := true } := by
    obtain ⟨htrk, -, hgeo⟩ := markEvents_keeps (some e) (markMoved u)
    have hpoints (v : State) : (takeTravelPoints v).geo = v.geo ∧ (takeTravelPoints v).trk = v.trk := by simp
    rw [(hpoints _).1, (hpoints _).2, hgeo, htrk, ← posAfter_one]
    exact ⟨rfl, rfl⟩
  induction i with
  | zero =>
    refine ⟨rfl, ?_⟩
    rw [spanState_succ, (hstep _).2]
    rfl
  | succ i ih =>
    obtain ⟨hgeo, htrk⟩ := ih
    have hgeo' : (spanState e s (i + 1)).geo = s.geo := by rw [spanState_succ, (hstep _).1, hgeo]
    have htravel : s.trk.travel + BitVec.ofNat 32 (i + 1) + 1 = s.trk.travel + BitVec.ofNat 32 (i + 1 + 1) := by
      rw [BitVec.add_assoc, BitVec.ofNat_add (i + 1) 1]
      rfl
    refine ⟨hgeo', ?_⟩
    rw [spanState_succ, (hstep _).2, htrk, hgeo']
    dsimp only
    rw [Nat.mod_add_mod, htravel, Nat.add_assoc]

theorem indexCounts_of_lag_zero {s : State} (h : s.trk.lag = 0) :
    indexCounts true s = cleanRevolution (s.setTrk { s.trk with indexRef := s.trk.travel }) := by
  rw [indexCounts, if_pos rfl, h]
  simp

/-- A gain that would bring the lag to C is a reverse overrun. -/
theorem realignBack_slips {n : Nat} {u : State} (h : u.geo.c ≤ u.trk.lag + n) :
    realignBack n u = slip (loadPocket u) (u.setTrk { u.trk with pos := u.geo.indexOffset }) := if_pos h

/-- A gain behind the mark grows the lag, and the index does not count. -/
theorem realignBack_behind {n : Nat} {u : State} (h : u.trk.lag + n < u.geo.c) (hlag : 0 < u.trk.lag) :
    realignBack n u = u.setTrk { u.trk with pos := u.geo.indexOffset, lag := u.trk.lag + n } := by
  have hzero : (u.trk.lag == 0) = false := beq_false_of_ne (by omega)
  rw [realignBack, if_neg (Nat.not_le.mpr h), hzero]
  rfl

/-- A gain at the mark grows the lag, and the index counts. -/
theorem realignBack_atMark {n : Nat} {u : State} (h : u.trk.lag + n < u.geo.c) (hlag : u.trk.lag = 0) :
    realignBack n u = cleanRevolution (u.setTrk { u.trk with
      pos := u.geo.indexOffset, lag := n, indexRef := u.trk.travel - BitVec.ofNat 32 n }) := by
  rw [realignBack, if_neg (Nat.not_le.mpr h), hlag, Nat.zero_add]
  rfl

/-- A loss that the lag absorbs. -/
theorem realignForward_absorbed {n : Nat} {u : State} (hn : 0 < n) (h : n ≤ u.trk.lag) :
    realignForward n u = u.setTrk { u.trk with pos := u.geo.indexOffset, lag := u.trk.lag - n } := by
  have hzero : (u.trk.lag == 0) = false := beq_false_of_ne (by omega)
  rw [realignForward, if_pos h, hzero]
  rfl

/-- A loss beyond the lag advances the mark through the rest, and the index counts. -/
theorem realignForward_advances {n : Nat} {u : State} (h : u.trk.lag < n) : realignForward n u =
    indexCounts true (spanState (u.trk.travel + BitVec.ofNat 32 (n - u.trk.lag))
      (u.setTrk { u.trk with pos := markPos u, lag := 0 }) (n - u.trk.lag)) := by
  rw [realignForward, if_neg (Nat.not_le.mpr h), ← advanceSpan_eq]

/-- The mark moved through a loss stands at the index offset. -/
theorem realigned_pos {c pos offset lag : Nat} {δ : Int} (hoffset : offset < c) (hloss : δ < 0) (hlag : lag < δ.natAbs)
    (hmod : ((pos : Int) - offset - δ) % c = 0) : ((pos + lag) % c + (δ.natAbs - lag)) % c = offset := by
  have hsum : pos + lag + (δ.natAbs - lag) = pos + δ.natAbs := by omega
  have hdvd : (c : Int) ∣ ((pos + δ.natAbs : Nat) : Int) - offset := by
    have := Int.dvd_of_emod_eq_zero hmod
    rwa [show ((pos + δ.natAbs : Nat) : Int) - offset = (pos : Int) - offset - δ by omega]
  rw [Nat.mod_add_mod, hsum]
  have hmodeq : offset ≡ pos + δ.natAbs [MOD c] := (Nat.modEq_iff_dvd).mpr hdvd
  have heq : (pos + δ.natAbs) % c = offset % c := hmodeq.symm
  rw [heq, Nat.mod_eq_of_lt hoffset]

/-- Settles O33. -/
theorem indexChecked : Obligations.IndexChecked := by
  unfold Obligations.IndexChecked
  refine ⟨fun u => ⟨fun hm => ?_, fun n t hm hlow hhigh ht => ?_⟩, fun pps before s t δ hs hrange hst ht hmod hlo hhi => ?_⟩
  · rw [cleanRevolution, if_neg (by simp [hm])]
  · have hn : satInc 15 u.mask.clean = n := by
      rw [satInc]
      split
      · next h => exact (hlow h).symm
      · next h => exact (hhigh (Nat.not_lt.mp h)).symm
    subst ht
    rw [cleanRevolution_masked hm, hn]
    refine ⟨fun hauto hle hforced => if_pos ⟨hauto, hle, hforced⟩, fun hnot => if_neg ?_⟩
    rintro ⟨hauto, hle, hforced⟩
    obtain h | h | h := hnot
    · rw [hauto] at h; cases h
    · omega
    · rw [hforced] at h; cases h
  · obtain ⟨-, ⟨hc, -⟩, hoffset, hpos, -⟩ := hrange
    have hdelta := indexDelta_unique hpos hoffset hmod hlo hhi
    have htrack : indexTracking (seePps pps s) = if δ.natAbs ≤ s.geo.ti then
        (if 0 ≤ δ then realignBack δ.natAbs (t.setTrk { s.trk with capture := s.trk.pos })
          else realignForward δ.natAbs (t.setTrk { s.trk with capture := s.trk.pos }))
        else slip (loadPocket s) (t.setTrk { s.trk with pos := s.geo.indexOffset, capture := s.trk.pos }) := by
      rw [ht, ← hdelta]
      rfl
    rw [exec_indexEvent_tracking hs hst, htrack]
    refine ⟨fun hfar => ?_, fun hnear hgain hover => ?_, fun hnear hgain hroom => ⟨fun hlag => ?_, fun hlag => ?_⟩,
      fun hnear hloss hlag => ?_, fun hnear hloss hlag k e hk he => ?_⟩
    · rw [if_neg (Nat.not_le.mpr hfar)]
    all_goals rw [if_pos hnear]
    · rw [if_pos hgain, realignBack_slips (u := t.setTrk { s.trk with capture := s.trk.pos }) (by rw [ht]; exact hover), ht]
      rfl
    · rw [if_pos hgain,
        realignBack_behind (u := t.setTrk { s.trk with capture := s.trk.pos }) (by rw [ht]; exact hroom) hlag, ht]
      rfl
    · rw [if_pos hgain,
        realignBack_atMark (u := t.setTrk { s.trk with capture := s.trk.pos }) (by rw [ht]; exact hroom) hlag, ht]
      rfl
    · rw [if_neg (not_le.mpr hloss),
        realignForward_absorbed (u := t.setTrk { s.trk with capture := s.trk.pos }) (by omega) hlag, ht]
      rfl
    · have hstart : (t.setTrk { s.trk with capture := s.trk.pos }).setTrk
            { s.trk with pos := markPos (t.setTrk { s.trk with capture := s.trk.pos }), capture := s.trk.pos, lag := 0 } =
          t.setTrk { s.trk with pos := posAfter s s.trk.lag, capture := s.trk.pos, lag := 0 } := by
        rw [posAfter_natCast, ht]
        rfl
      have htrk := (spanState_trk e (t.setTrk { s.trk with pos := posAfter s s.trk.lag, capture := s.trk.pos, lag := 0 })
        (k - 1)).2
      have hpos' : (posAfter s s.trk.lag + k) % s.geo.c = s.geo.indexOffset := by
        rw [posAfter_natCast, hk]
        exact realigned_pos hoffset hloss hlag hmod
      have hgeo : (t.setTrk { s.trk with pos := posAfter s s.trk.lag, capture := s.trk.pos, lag := 0 }).geo = s.geo := by
        rw [ht]
        rfl
      rw [Nat.sub_add_cancel (by omega : 1 ≤ k), hgeo, State.setTrk_trk, hpos'] at htrk
      dsimp only at htrk
      rw [← he] at htrk
      refine ⟨spanState e (t.setTrk { s.trk with pos := posAfter s s.trk.lag, capture := s.trk.pos, lag := 0 }), rfl,
        fun i _ => spanState_succ _ _ i, htrk, ?_⟩
      rw [if_neg (not_le.mpr hloss), realignForward_advances (u := t.setTrk { s.trk with capture := s.trk.pos }) hlag]
      dsimp only [State.setTrk_trk]
      rw [hstart, ← hk, ← he, indexCounts_of_lag_zero (by rw [htrk]), htrk]

end Sys2Proof.Machine
end

section
/-!
PROOF. The links: the receiver (O44, O45), the transmitter and the places of the report queue (O46), and the admission of
notices and PART reports (O47).
-/

namespace Sys2Proof.Machine

/-! ## Flags, notices and reports -/

theorem flagSet_eq_ofNat (fl : Flag) : flagSet fl = BitVec.ofNat 14 (2 ^ flagBit fl) := by cases fl <;> decide

/-- A flag handed while clear and enabled offers its notice. -/
theorem raise_enabled {fl : Flag} {s : State} (h : s.events.flags.getLsbD (flagBit fl) = false)
    (he : s.events.enables.getLsbD (flagBit fl) = true) :
    raise fl s = offerNotice (s.setEvents { s.events with flags := s.events.flags ||| flagSet fl }) := by
  rw [raise_clear h, if_neg (by simp [he])]

theorem offerNotice_room {s : State} (h : fill s < 32) : offerNotice s = enqueue (.event s.events.flags) s := if_pos h

theorem offerNotice_full {s : State} (h : 32 ≤ fill s) : offerNotice s =
    if s.events.noticePending then s else s.setEvents { s.events with noticePending := true, noticeFirst := !s.report.stalled } :=
  if_neg (Nat.not_lt.mpr h)

/-- Settles O47. -/
theorem flagsAndReportsAdmitted : Obligations.FlagsAndReportsAdmitted := by
  unfold Obligations.FlagsAndReportsAdmitted
  refine fun s => ⟨fun fl => ⟨raise_set, fun hclear now hnow => ⟨fun hoff => ?_, fun hon => ?_⟩⟩, fun r => ⟨fun h => ?_, fun h => ?_⟩⟩
  · rw [hnow, ← flagSet_eq_ofNat, raise_clear hclear, if_pos hoff]
  · have hfill : fill (s.setEvents { s.events with flags := now }) = fill s := rfl
    rw [raise_enabled hclear hon, flagSet_eq_ofNat, ← hnow]
    refine ⟨fun hroom => ?_, fun hfull hp => ?_, fun hfull hp => ?_⟩
    · rw [offerNotice_room (hfill ▸ hroom)]
      rfl
    · exact (offerNotice_full (hfill ▸ hfull)).trans (if_pos hp)
    · exact (offerNotice_full (hfill ▸ hfull)).trans (if_neg (Bool.eq_false_iff.mp hp))
  · exact if_pos h
  · exact if_neg (Nat.not_lt.mpr h)

/-! ## The beginning of an event -/

theorem opened_handed {s : State} (h : s.report.noticePlace = true) : ∃ stall, opened s =
    (s.setReport { s.report with
      queue := s.report.queue ++ [.event s.events.flags], noticePlace := false, stalled := stall }).setEvents
      { s.events with noticePending := false } := by
  have hadmit : admitHanded s = _ := if_pos h
  rw [opened, hadmit]
  exact ⟨_, rfl⟩

theorem opened_unhanded {s : State} (h : s.report.noticePlace = false) :
    ∃ stall, opened s = s.setReport { s.report with stalled := stall } := by
  have hadmit : admitHanded s = s := if_neg (Bool.eq_false_iff.mp h)
  rw [opened, hadmit]
  exact ⟨_, rfl⟩

theorem headNeedsPlace_iff (s : State) : headNeedsPlace s = true ↔
    s.report.replyPlace = false ∧ ∃ g, s.inbound.head? = some g ∧ waitsForPlace g = true := by
  unfold headNeedsPlace
  cases s.inbound with
  | nil => simp
  | cons f rest => simp [and_comm]

/-- The stall mark at the beginning of an event. -/
theorem opened_stalled_iff (s : State) : (opened s).report.stalled = true ↔ 32 ≤ fill (opened s) ∧
    (opened s).report.replyPlace = false ∧ ∃ g, (opened s).inbound.head? = some g ∧ waitsForPlace g = true := by
  have hmark : (opened s).report.stalled = stalled (opened s) := rfl
  rw [hmark, stalled, Bool.and_eq_true, headNeedsPlace_iff, decide_eq_true_iff, and_comm]
  rfl

/-! ## The receiver -/

theorem exec_frameStart (s : State) : exec .frameStart s = .next
    (if s.rx.st = .waiting ∧ s.pins.mfs = false then
      (s.setPins { s.pins with mfs := true }).setRx (startFrame (s.setPins { s.pins with mfs := true }).rx)
    else s.setPins { s.pins with mfs := true }) := rfl

theorem exec_headerReceived (s : State) : exec .headerReceived s = .next (takeHeader (opened s)) := rfl

theorem exec_frameComplete (s : State) : exec .frameComplete s = .next (takeComplete (opened s)) := rfl

theorem exec_mclkRisingEdge (d : Bool) (s : State) : exec (.mclkRisingEdge d) s = .next (sampleBit d (takeReceived s)) := rfl

theorem exec_mfsDeassert (s : State) : exec .mfsDeassert s = .next (endFrame (takeReceived s)) := rfl

/-- The word with a bit shifted in at its low end. -/
theorem shiftedIn_eq {d : Bool} {x w : Word16}
    (h : ∀ i : Fin 16, w.getLsbD i = if i.val = 0 then d else x.getLsbD (i - 1)) :
    (x <<< 1) ||| (BitVec.ofBool d).setWidth 16 = w := by
  apply BitVec.eq_of_getLsbD_eq
  intro i hi
  have hw := h ⟨i, hi⟩
  dsimp only at hw
  rw [hw, BitVec.getLsbD_or, BitVec.getLsbD_shiftLeft, BitVec.getLsbD_setWidth, BitVec.getLsbD_ofBool]
  by_cases h0 : i = 0
  · simp [h0]
  · simp [h0, hi]

theorem shiftBit_eq {d : Bool} {r : Receiver} {w : Word16}
    (h : ∀ i : Fin 16, w.getLsbD i = if i.val = 0 then d else r.shift.getLsbD (i - 1)) : shiftBit d r =
      if r.bitCount = 15 then
        { r with bitCount := 0, shift := 0, sum := r.sum + w, wordCount := r.wordCount + 1, words := r.words ++ [w] }
      else { r with bitCount := r.bitCount + 1, shift := w } := by
  rw [← shiftedIn_eq h]
  rfl

/-- Settles O44. -/
theorem receiverAssembles : Obligations.ReceiverAssembles := by
  unfold Obligations.ReceiverAssembles
  refine fun s => ⟨fun hw hm => ?_, fun hnot => ?_, takeHeader (opened s), takeComplete (opened (takeHeader (opened s))),
    takeReceived s, rfl, rfl, rfl, fun hst d => ?_, fun hst d w hw => ⟨fun hbits => ?_, fun hbits => ?_⟩, fun hst => ?_,
    fun hst => ?_⟩
  · rw [exec_frameStart, if_pos ⟨hw, hm⟩]
    rfl
  · rw [exec_frameStart, if_neg]
    rintro ⟨hw, hm⟩
    obtain h | h := hnot
    · exact h hw
    · rw [hm] at h; cases h
  · rw [exec_mclkRisingEdge, sampleBit, if_neg hst]
  · rw [exec_mclkRisingEdge, sampleBit, if_pos hst, shiftBit_eq hw, if_neg hbits]
  · rw [exec_mclkRisingEdge, sampleBit, if_pos hst, shiftBit_eq hw, if_pos hbits]
  · rw [exec_mfsDeassert, endFrame, if_neg hst]
  · rw [exec_mfsDeassert, endFrame, if_pos hst]
    rfl

theorem headerDue_iff (s : State) : headerDue s = true ↔
    s.rx.st = .receiving ∧ s.rx.wordCount = 1 ∧ s.rx.bitCount = 0 ∧ s.rx.declared = none := by
  simp [headerDue, and_assoc]

theorem frameDue_iff (s : State) : frameDue s = true ↔
    s.rx.st = .receiving ∧ s.rx.bitCount = 0 ∧ s.rx.declared = some s.rx.wordCount := by
  simp [frameDue, and_assoc]

theorem takeComplete_due {s : State} (h : frameDue s = true) : takeComplete s =
    if s.rx.sum = 0 then arrive s.rx.words (s.setRx { s.rx with st := .trailing })
    else raise .badSum (countBadSum (s.setRx { s.rx with st := .trailing })) := if_pos h

/-- Settles O45. -/
theorem framesExamined : Obligations.FramesExamined := by
  unfold Obligations.FramesExamined
  intro before s hs
  rw [exec_headerReceived, exec_frameComplete, ← hs]
  refine ⟨fun hst hwords hbits hdecl n hn => ?_, fun hnot => ?_, fun hst hbits hdecl t ht => ?_, fun hnot => ?_⟩
  · have hdue : headerDue s = true := (headerDue_iff s).mpr ⟨hst, hwords, hbits, hdecl⟩
    have htake : takeHeader s = if 2 ≤ n ∧ n ≤ 16 then s.setRx { s.rx with declared := some n }
        else runt (s.setRx { s.rx with st := .trailing }) := by
      rw [hn]
      exact if_pos hdue
    refine ⟨fun h2 h16 => ?_, fun hbad => ?_⟩
    · rw [htake, if_pos ⟨h2, h16⟩]
    · rw [htake, if_neg (by omega)]
      rfl
  · rw [takeHeader, if_neg]
    rw [headerDue_iff]
    rintro ⟨hst, hwords, hbits, hdecl⟩
    obtain h | h | h | h := hnot
    exacts [h hst, h hwords, h hbits, h hdecl]
  · subst ht
    rw [takeComplete_due ((frameDue_iff s).mpr ⟨hst, hbits, hdecl⟩)]
    refine ⟨fun hsum hroom => ?_, fun hsum hfull => ?_, fun hsum => ?_⟩
    · rw [if_pos hsum]
      exact congrArg Host.Outcome.next (if_pos hroom)
    · rw [if_pos hsum]
      exact congrArg Host.Outcome.next (if_neg (Nat.not_lt.mpr hfull))
    · rw [if_neg hsum]
      rfl
  · rw [takeComplete, if_neg]
    rw [frameDue_iff]
    rintro ⟨hst, hbits, hdecl⟩
    obtain h | h | h := hnot
    exacts [h hst, h hbits, h hdecl]

/-! ## The transmitter -/

theorem exec_transmitStart (b : Bool) (s : State) : exec (.transmitStart b) s = .next (takeRhold b (opened s)) := rfl

theorem exec_rholdAssert (s : State) : exec .rholdAssert s = .next (takeRhold true s) := rfl

theorem exec_transmitComplete (s : State) : exec .transmitComplete s = .next (completeFrame (opened s)) := rfl

theorem exec_pendingNoticeAdmit (s : State) : exec .pendingNoticeAdmit s = .next (admitHanded s) := rfl

/-- With RHOLD low the head frame starts where one waits and none is sent. -/
theorem takeRhold_low (s : State) : takeRhold false s =
    if s.tx.sending = false ∧ s.report.queue ≠ [] then
      (s.setPins { s.pins with rhold := false }).setTx { sending := true, sent := 0, bits := 0 }
    else s.setPins { s.pins with rhold := false } := rfl

/-- With RHOLD high the frame in progress is abandoned. -/
theorem takeRhold_high (s : State) : takeRhold true s =
    if s.tx.sending then (s.setPins { s.pins with rhold := true }).setTx { sending := false, sent := 0, bits := 0 }
    else s.setPins { s.pins with rhold := true } := rfl

theorem completeFrame_idle {s : State} (h : s.tx.sending = false) : completeFrame s = s := if_neg (Bool.eq_false_iff.mp h)

theorem completeFrame_empty {s : State} (h : s.tx.sending = true) (hq : s.report.queue = []) :
    completeFrame s = s.setTx { sending := false, sent := 0, bits := 0 } := by
  unfold completeFrame
  rw [if_pos h, hq]
  rfl

theorem completeFrame_head {s : State} {f : OutFrame} {rest : List OutFrame} (h : s.tx.sending = true)
    (hq : s.report.queue = f :: rest) : completeFrame s =
      handPlace ((s.setTx { sending := false, sent := 0, bits := 0 }).setReport { s.report with queue := rest }) := by
  unfold completeFrame
  rw [if_pos h, hq]
  rfl

/-- Settles O46. -/
theorem transmitterActs : Obligations.TransmitterActs := by
  unfold Obligations.TransmitterActs
  intro before s hs
  have hstall : s.report.stalled = true ↔
      32 ≤ fill s ∧ s.report.replyPlace = false ∧ ∃ g, s.inbound.head? = some g ∧ waitsForPlace g = true := by
    rw [hs]
    exact opened_stalled_iff before
  have hstart (b : Bool) : exec (.transmitStart b) before = .next (takeRhold b s) := by rw [exec_transmitStart, hs]
  have hcomplete : exec .transmitComplete before = .next (completeFrame s) := by rw [exec_transmitComplete, hs]
  refine ⟨fun h => hs ▸ opened_handed h, fun h => hs ▸ opened_unhanded h, hstall, fun t ht => ⟨fun hoff hq => ?_, fun hnot => ?_⟩,
    fun t ht => ⟨fun hon => ?_, fun hoff => ?_⟩, fun t ht => ⟨fun hon => ?_, fun hoff => ?_⟩, fun hoff => ?_,
    fun hon hq => ?_, fun f rest t hon hq ht => ?_, fun h => ?_, fun h => ?_⟩
  · rw [hstart, takeRhold_low, if_pos ⟨hoff, hq⟩, ht]
  · rw [hstart, takeRhold_low, if_neg, ht]
    rintro ⟨hoff, hq⟩
    obtain h | h := hnot
    · rw [hoff] at h; cases h
    · exact hq h
  · rw [hstart, takeRhold_high, if_pos hon, ht]
  · rw [hstart, takeRhold_high, if_neg (Bool.eq_false_iff.mp hoff), ht]
  · rw [exec_rholdAssert, takeRhold_high, if_pos hon, ht]
  · rw [exec_rholdAssert, takeRhold_high, if_neg (Bool.eq_false_iff.mp hoff), ht]
  · rw [hcomplete, completeFrame_idle hoff]
  · rw [hcomplete, completeFrame_empty hon hq]
  · rw [hcomplete, completeFrame_head hon hq, ← ht]
    have hpending : t.events.noticePending = s.events.noticePending := by rw [ht]; rfl
    have hfirst : t.events.noticeFirst = s.events.noticeFirst := by rw [ht]; rfl
    have hstalled : t.report.stalled = s.report.stalled := by rw [ht]; rfl
    rw [handPlace, hpending, hfirst, hstalled]
    refine ⟨fun hp hwaits => ?_, fun hst hnot => ?_, fun hst hp => ?_⟩
    · rw [if_pos ⟨hp, hwaits⟩]
    · rw [if_neg, if_pos hst]
      rintro ⟨hp, hwaits⟩
      obtain h | h := hnot
      · rw [hp] at h; cases h
      · rw [h, hst] at hwaits
        simp at hwaits
    · rw [if_neg (fun h => Bool.eq_false_iff.mp hp h.1), if_neg (Bool.eq_false_iff.mp hst)]
  · rw [exec_pendingNoticeAdmit]
    exact congrArg Host.Outcome.next (if_pos h)
  · rw [exec_pendingNoticeAdmit]
    exact congrArg Host.Outcome.next (if_neg (Bool.eq_false_iff.mp h))

end Sys2Proof.Machine
end

section
/-!
PROOF. A verdict stays until its record is freed (O59). Acts keep it, so the one danger is a load into a pocket whose record
the same command has freed; with the relations of a run nothing is freed at the load station before its load is taken.
-/

namespace Sys2Proof.Machine

/-! ## Verdicts over acts -/

/-- Every record of s that t still holds has the verdict it had, if it had one (R90). -/
def VerdictsKept (s t : State) : Prop :=
  ∀ (k : PocketNo) (p q : Part) (v : Verdict), s.ring[k] = some p → t.ring[k] = some q → verdictOf p = some v →
    verdictOf q = some v

theorem VerdictsKept.refl (s : State) : VerdictsKept s s := fun k p q v hp hq hv => (Follows.refl s.ring[k]).2 p q v hp hq hv

theorem VerdictsKept.of_ring {s t u : State} (h : VerdictsKept s t) (hring : u.ring = t.ring) : VerdictsKept s u := by
  unfold VerdictsKept
  rw [hring]
  exact h

theorem VerdictsKept.of_empty {s t : State} (h : ∀ k : PocketNo, t.ring[k] = none) : VerdictsKept s t :=
  fun k p q v _ hq => by rw [h k] at hq; cases hq

/-- An act takes up no FREE pocket and keeps each verdict. -/
theorem Act.follows {s t : State} (h : Act s t) (k : PocketNo) : Follows s.ring[k] t.ring[k] := by
  cases h with
  | link h => rw [h.sameBody.ring]; exact .refl _
  | turret h =>
    obtain ⟨j, r, hr, hfollows⟩ := h.replaced
    rw [hr.at]
    split
    · next hk => subst hk; exact hfollows
    · exact .refl _

theorem VerdictsKept.act {s t u : State} (ht : VerdictsKept s t) (h : Act t u) : VerdictsKept s u := by
  intro k p q v hp hq hv
  obtain ⟨hfree, hverdict⟩ := h.follows k
  cases hmid : t.ring[k] with
  | none => rw [hfree hmid] at hq; cases hq
  | some m => exact hverdict m q v hmid hq (ht k p m v hp hmid hv)

theorem VerdictsKept.acts {s t u : State} (ht : VerdictsKept s t) (h : Acts t u) : VerdictsKept s u :=
  h.keeps (fun _ _ hact hs => hs.act hact) ht

/-- A load leaves the verdicts alone where its pocket held no record of s. -/
theorem VerdictsKept.load {s t : State} (h : VerdictsKept s t)
    (hload : loaden t = true → t.ring[pocketAt t 0] = none → s.ring[pocketAt t 0] = none) :
    VerdictsKept s (loadSample t) := by
  obtain he | ⟨⟨-, hen, -, hfree⟩, he⟩ := loadSample_cases t <;> rw [he]
  · exact h
  · intro k p q v hp hq hv
    rw [(loadTaken_replaced hfree).at] at hq
    split at hq
    · next hk => subst hk; rw [hload hen hfree] at hp; cases hp
    · exact h k p q v hp hq hv

/-! ## The commands that load nothing -/

/-- A setting leaves the records alone, or every pocket FREE. -/
theorem Setting.ring {s t : State} (h : Setting s t) : t.ring = s.ring ∨ ∀ k : PocketNo, t.ring[k] = none := by
  cases h with
  | laneState o => exact .inl (applyLaneOrder_keeps o s).1
  | stop => exact .inr (announceIdle_at true s)
  | write => exact .inl (by simp [writeStaging])
  | swap => exact .inl (by simp [swapBanks])
  | _ => exact .inl (by simp)

theorem Effect.verdictsKept {s t u : State} (h : Effect t u) (ht : VerdictsKept s t) : VerdictsKept s u := by
  obtain h | h := h
  · exact ht.acts h
  · exact h.ring.elim ht.of_ring .of_empty

theorem Ran.verdictsKept {s t : State} (h : Ran s t) : VerdictsKept s t := by
  cases h with
  | acts h => exact (VerdictsKept.refl s).acts h
  | @answered u f a _ h =>
    have hkept : VerdictsKept s (keepPlace (settled s)) := ((VerdictsKept.refl s).acts (settled_acts s)).of_ring (by simp)
    exact (h.verdictsKept hkept).of_ring rfl
  | discarded h => exact ((VerdictsKept.refl s).acts h).of_ring (by simp)
  | completed => exact (VerdictsKept.refl s).of_ring ((completeFrame_sameBody _).ring.trans (by simp))
  | runReset f =>
    have hring : (takeRunReset f (settled s)).ring = (announceIdle false (settled s)).ring := by
      simp [takeRunReset, runResetState]
    exact .of_empty fun k => by rw [hring]; exact announceIdle_at false _ k

/-- No act touches the load pause. -/
theorem Act.loadPause {s t : State} (h : Act s t) : t.loadPause = s.loadPause := by
  cases h with
  | link h =>
    cases h with
    | takeHeader =>
      unfold Machine.takeHeader runt
      dsimp only
      repeat' split
      all_goals simp
    | takeComplete =>
      unfold Machine.takeComplete arrive
      dsimp only
      repeat' split
      all_goals simp
    | endFrame => unfold Machine.endFrame runt; dsimp only; split <;> simp
    | sampleBit => unfold Machine.sampleBit; split <;> simp
    | opened | admitHanded | raise | counters | events | pins | tx | choice | startFrame => simp
  | turret h =>
    cases h with
    | home => unfold Machine.home; dsimp only; split <;> simp
    | track => rfl
    | drop =>
      unfold dropEdge confirmRecord
      repeat' split
      all_goals simp
    | station | slot | classify | rest | windowEnd | passCheck | departure | fire | purgeOne | addReason | exitMask
    | clean => simp

/-- With loading paused no motion loads. -/
theorem Motions.verdictsKept_of_pause {s t : State} (h : Motions s t) (hp : s.loadPause = true) : VerdictsKept s t := by
  refine (h.keeps (P := fun u => VerdictsKept s u ∧ u.loadPause = true) (fun u v huv hu => ?_) (fun u hu => ?_)
    ⟨.refl s, hp⟩).1
  · exact ⟨hu.1.act huv, huv.loadPause.trans hu.2⟩
  · exact ⟨hu.1.load fun hen => by simp [loaden, hu.2] at hen, by simpa using hu.2⟩

end Sys2Proof.Machine
end

section
/-!
PROOF. Where a motion frees records: a purge, which leaves the mask MASKED, a fire and the departure, neither of them at the
load station within the relations of a run. So no pocket is freed and loaded anew by one command (O59).
-/

namespace Sys2Proof.Machine

/-! ## What frees no record -/

/-- A pocket that is FREE after was FREE before: its record, if it held one, has not been freed. -/
structure Stays (k : PocketNo) (s t : State) : Prop where
  free : t.ring[k] = none → s.ring[k] = none

theorem Stays.of_ring {k : PocketNo} {s t : State} (h : t.ring = s.ring) : Stays k s t := by
  exact ⟨fun ht => by rwa [h] at ht⟩

theorem Stays.refl (k : PocketNo) (s : State) : Stays k s s := ⟨id⟩

theorem Stays.trans {k : PocketNo} {s t u : State} (h : Stays k s t) (h' : Stays k t u) : Stays k s u :=
  ⟨fun hu => h.free (h'.free hu)⟩

/-- A record that is written frees no pocket. -/
theorem Stays.of_set {k j : PocketNo} {p : Part} {s t : State} (h : t.ring = s.ring.set j (some p)) : Stays k s t := by
  refine ⟨fun ht => ?_⟩
  have hat := setRecord_at j k (some p) s
  rw [h] at ht
  by_cases hk : k = j
  · subst hk; simp at ht
  · rw [if_neg hk] at hat
    exact hat.symm.trans ht

/-- A record freed elsewhere leaves pocket k alone. -/
theorem Stays.of_free {k j : PocketNo} {s t : State} (hne : j ≠ k) (h : t.ring = s.ring.set j none) : Stays k s t := by
  refine ⟨fun ht => ?_⟩
  have hat := setRecord_at j k none s
  rw [if_neg hne.symm] at hat
  rw [h] at ht
  exact hat.symm.trans ht

theorem foldl_stays {α : Type} {k : PocketNo} {g : State → α → State} (h : ∀ t x, Stays k t (g t x)) (xs : List α)
    (s : State) : Stays k s (xs.foldl g s) := by
  induction xs generalizing s with
  | nil => exact .refl k s
  | cons x xs ih => exact (h s x).trans (ih _)

theorem classify_stays (k j : PocketNo) (s : State) : Stays k s (classify j s) := by
  obtain he | ⟨p, v, -, -, ⟨why, he⟩ | ⟨c, -, he⟩⟩ := classify_cases j s <;> rw [he]
  · exact .refl k s
  · exact .of_set (j := j) (p := { p with st := .stranded v none why }) (by simp [setRecord, classCounted_ring])
  · exact .of_set (j := j) (p := { p with st := .routed v c }) (by simp [setRecord, classCounted_ring])

theorem writeSlot_stays (k j : PocketNo) (m : StationNo) (x : Slot) (s : State) : Stays k s (writeSlot j m x s) := by
  unfold writeSlot
  split
  · exact .refl k s
  · split
    · exact (Stays.of_set rfl).trans (classify_stays k j _)
    · exact .refl k s

theorem modStation_stays (k : PocketNo) (m : StationNo) (g : Station → Station) (s : State) :
    Stays k s (modStation m g s) := .of_ring (by simp)

theorem takeDeadline_stays (k : PocketNo) (m : StationNo) (s : State) : Stays k s (takeDeadline m s) := by
  unfold takeDeadline
  split
  · exact .refl k s
  · split
    · exact .refl k s
    · split
      · split
        · exact (modStation_stays ..).trans (writeSlot_stays ..)
        · exact writeSlot_stays ..
        · exact .refl k s
      · exact .refl k s

theorem triggerPhase_stays (k : PocketNo) (e : Option Travel) (m : StationNo) (s : State) :
    Stays k s (triggerPhase e m s) := by
  unfold triggerPhase
  dsimp only
  split
  · split
    · exact .refl k s
    · split
      · split
        · exact writeSlot_stays ..
        · exact (writeSlot_stays ..).trans (modStation_stays ..)
      · exact .refl k s
  · exact .refl k s

theorem missRecord_stays (k j : PocketNo) (l : LaneNo) (s : State) : Stays k s (missRecord l j s) := by
  unfold missRecord
  split
  · split
    · split
      · exact .of_set rfl
      · exact .refl k s
    · exact .refl k s
  · exact .refl k s

/-- A miss strands its record and frees none. -/
theorem takeWindowEnd_stays (k : PocketNo) (l : LaneNo) (s : State) : Stays k s (takeWindowEnd l s) := by
  unfold takeWindowEnd
  split
  · exact .refl k s
  · split
    · exact (Stays.of_ring (by simp)).trans (missRecord_stays ..)
    · exact .refl k s

theorem passCheck_stays (k : PocketNo) (l : LaneNo) (s : State) : Stays k s (passCheck l s) := by
  obtain he | ⟨j, p, v, c, -, -, -, he⟩ := passCheck_cases l s <;> rw [he]
  · exact .refl k s
  · exact .of_set rfl

theorem takeTriggerEnd_stays (k : PocketNo) (m : StationNo) (s : State) : Stays k s (takeTriggerEnd m s) := .of_ring (by simp)

theorem takeClose_stays (k : PocketNo) (l : LaneNo) (s : State) : Stays k s (takeClose l s) := .of_ring (by simp)

theorem takeRestPoint_stays (k : PocketNo) (l : LaneNo) (s : State) : Stays k s (takeRestPoint l s) := .of_ring (by simp)

theorem opened_stays (k : PocketNo) (s : State) : Stays k s (opened s) := .of_ring (by simp)

theorem takeLanePoints_stays (k : PocketNo) (l : LaneNo) (s : State) : Stays k s (takeLanePoints l s) :=
  ((takeClose_stays k l s).trans (takeWindowEnd_stays k l _)).trans (takeRestPoint_stays k l _)

theorem takeTravelPoints_stays (k : PocketNo) (s : State) : Stays k s (takeTravelPoints s) :=
  (foldl_stays (fun t m => takeTriggerEnd_stays k m t) allStations s).trans
    (foldl_stays (fun t l => takeLanePoints_stays k l t) allLanes _)

theorem finishLane_stays (k : PocketNo) (l : LaneNo) (s : State) : Stays k s (finishLane l s) :=
  (((takeClose_stays k l s).trans (opened_stays k _)).trans (takeWindowEnd_stays k l _)).trans (takeRestPoint_stays k l _)

theorem takePoints_stays (k : PocketNo) (s : State) : Stays k s (takePoints s) :=
  ((foldl_stays (fun t m => (opened_stays k t).trans (takeDeadline_stays k m _)) allStations s).trans
    (foldl_stays (fun t m => takeTriggerEnd_stays k m t) allStations _)).trans
    (foldl_stays (fun t l => finishLane_stays k l t) allLanes _)

/-- What fell due frees records by a SLIP alone, after which the mask stands. -/
theorem settled_stays (k : PocketNo) (s : State) (hm : (settled s).mask.masked = false) : Stays k s (settled s) := by
  have hmasked (load : Nat) (u : State) : (slip load u).mask.masked = true := by
    rw [(slip_leaves load u).2.2.1, addReason_mask]
    split <;> simp_all
  unfold settled at hm ⊢
  unfold takeMissingIndex at hm ⊢
  split at hm
  · simp [hmasked] at hm
  · next h =>
    rw [if_neg h]
    exact (takePoints_stays k s).trans (opened_stays k _)

theorem contestedDeadlines_stays (k : PocketNo) (s : State) : Stays k s (contestedDeadlines s) := by
  obtain he | ⟨-, he | he⟩ := contestedDeadlines_cases s <;> rw [he]
  · exact .refl k s
  · exact .of_ring (by simp)
  · exact (Stays.of_ring (by simp)).trans (foldl_stays (fun t m => takeDeadline_stays k m t) allStations _)

end Sys2Proof.Machine
end

section
/-!
PROOF. The verdicts over the two motion commands, and O59.
-/

namespace Sys2Proof.Machine

/-! ## The load station within the relations of a run -/

/-- A state in TRACKING with the relations of a run. -/
structure OnCourse (s : State) : Prop where
  tracking : s.trk.st = .tracking
  pockets : s.geo.pn ≤ 128
  relations : ∀ n, 1 ≤ n → n ≤ 14 → StartRelation s n

theorem OnCourse.motions {s t : State} (hs : OnCourse s) (h : Motions s t) (ht : t.trk.st = .tracking) : OnCourse t where
  tracking := ht
  pockets := by rw [h.setupSame.geo]; exact hs.pockets
  relations := h.setupSame.relations (fun _ => hs.relations) (by simp [ht])

/-- A lane that may fire lies beyond the load station: it lies beyond a PREC station's deadline (R188). -/
theorem OnCourse.laneOffset_pos {s : State} (hs : OnCourse s) {l : LaneNo} (ha : s.lanes[l].attr ≠ .disabled) :
    0 < s.lanes[l].setup.offset := by
  obtain ⟨m, hm⟩ : ∃ m : StationNo, s.stations[m].role = .prec := hs.relations 8 (by decide) (by decide)
  have hbeyond : s.stations[m].offset + s.stations[m].deadline < s.lanes[l].setup.offset :=
    hs.relations 11 (by decide) (by decide) m (fun hnone => by rw [hm] at hnone; cases hnone) l ha
  omega

/-- The dump lies on the turret, beyond the load station. -/
theorem OnCourse.dumpOffset_range {s : State} (hs : OnCourse s) : 0 < s.geo.dumpOffset ∧ s.geo.dumpOffset < s.geo.pn := by
  have hlane : s.lanes[(0 : LaneNo)].setup.offset < s.geo.dumpOffset := hs.relations 12 (by decide) (by decide) 0
  exact ⟨by omega, hs.relations 7 (by decide) (by decide)⟩

theorem OnCourse.pocketAt_ne {s : State} (hs : OnCourse s) {e : Nat} (h0 : 0 < e) (he : e < s.geo.pn) :
    pocketAt s e ≠ pocketAt s 0 := fun h => by
  have := pocketFrom_injective hs.pockets _ he (by omega) h
  omega

theorem firePhase_stays {s : State} (hs : OnCourse s) (e : Option Travel) (l : LaneNo) :
    Stays (pocketAt s 0) s (firePhase e l s) := by
  obtain he | ⟨k, p, v, c, hk, hlt, -, -, -, -, ha, he | he⟩ := firePhase_cases e l s <;> rw [he]
  · exact .refl _ s
  · have hne : k ≠ pocketAt s 0 := hk ▸ hs.pocketAt_ne (hs.laneOffset_pos ha) hlt
    exact .of_free hne (by simp [deliver_ring])
  · exact .of_set rfl

theorem departure_stays {s : State} (hs : OnCourse s) : Stays (pocketAt s 0) s (departure s) := by
  obtain ⟨h0, hlt⟩ := hs.dumpOffset_range
  unfold departure
  split
  · exact .refl _ s
  · next p hp => exact .of_free (hs.pocketAt_ne h0 hlt) (departRecord_replaced hp).ring

/-! ## A motion that frees nothing at the load station -/

/-- On the way from s, with pocket k at the load station: the verdicts are kept, and while the mask is LIVE pocket k has not
been freed. -/
structure Guarded (s : State) (k : PocketNo) (t : State) : Prop where
  course : OnCourse t
  load : pocketAt t 0 = k
  kept : VerdictsKept s t
  held : t.mask.masked = false → t.ring[k] = none → s.ring[k] = none

theorem pocketAt_of_same {s t : State} (hg : t.geo = s.geo) (ht : t.trk = s.trk) (e : Nat) : pocketAt t e = pocketAt s e := by
  rw [pocketAt, pocketAt, loadPocket, loadPocket, markPos, markPos, hg, ht]

theorem Guarded.acts {s t u : State} {k : PocketNo} (h : Guarded s k t) (hacts : Acts t u) (htrk : u.trk = t.trk)
    (hmask : u.mask = t.mask) (hstays : Stays k t u) : Guarded s k u where
  course := h.course.motions hacts.motions (by rw [htrk]; exact h.course.tracking)
  load := (pocketAt_of_same hacts.setupSame.geo htrk 0).trans h.load
  kept := h.kept.acts hacts
  held hm hk := h.held (by rw [← hmask]; exact hm) (hstays.free hk)

theorem Guarded.loadSample {s t : State} {k : PocketNo} (h : Guarded s k t) : Guarded s k (loadSample t) := by
  obtain ⟨hcourse, rfl, hkept, hheld⟩ := h
  refine ⟨hcourse.motions (.single (.load t)) (by simpa using hcourse.tracking), pocketAt_of_same (by simp) (by simp) 0,
    hkept.load fun hen => hheld ?_, fun hm hk => ?_⟩
  · obtain ⟨⟨-, hm⟩, -⟩ : (t.trk.st = .tracking ∧ t.mask.masked = false) ∧ t.loadPause = false := by
      simpa [loaden, isTracking] using hen
    exact hm
  · obtain he | ⟨⟨-, -, -, hfree⟩, he⟩ := loadSample_cases t <;> rw [he] at hm hk
    · exact hheld hm hk
    · rw [(loadTaken_replaced hfree).at, if_pos rfl] at hk
      cases hk

theorem Guarded.pitchEvent {s t : State} {k : PocketNo} (h : Guarded s k t) : Guarded s k (pitchEvent t) := by
  have hchecked : Guarded s k (allLanes.foldl (fun u l => passCheck l u) (contestedDeadlines t)) := by
    have hkeeps := foldl_keeps (fun u : State => (u.trk, u.mask)) (fun u l => passCheck l u) (by simp) allLanes
      (contestedDeadlines t)
    obtain ⟨htrk, hmask⟩ := Prod.mk.inj hkeeps
    refine h.acts ((contestedDeadlines_acts t).trans (foldl_chain (fun u l => (TurretAct.passCheck l u).acts) allLanes _))
      (htrk.trans (by simp)) (hmask.trans (by simp)) ?_
    exact (contestedDeadlines_stays k t).trans (foldl_stays (fun u l => passCheck_stays k l u) allLanes _)
  show Guarded s k (departure _)
  exact hchecked.acts (TurretAct.departure _).acts (by simp) (by simp) (hchecked.load ▸ departure_stays hchecked.course)

theorem Guarded.afterLoad {s t : State} {k : PocketNo} (h : Guarded s k t) (e : Option Travel) :
    Guarded s k (afterLoad e t) := by
  have htriggers : Guarded s k (allStations.foldl (fun u m => triggerPhase e m u) t) := by
    have hkeeps := foldl_keeps (fun u : State => (u.trk, u.mask)) (fun u m => triggerPhase e m u) (by simp) allStations t
    obtain ⟨htrk, hmask⟩ := Prod.mk.inj hkeeps
    exact h.acts (foldl_chain (fun u m => triggerPhase_acts e m u) allStations t) htrk hmask
      (foldl_stays (fun u m => triggerPhase_stays k e m u) allStations t)
  have hfires (ls : List LaneNo) (u : State) (hu : Guarded s k u) : Guarded s k (ls.foldl (fun x l => firePhase e l x) u) := by
    induction ls generalizing u with
    | nil => exact hu
    | cons l ls ih =>
      exact ih _ (hu.acts (TurretAct.fire e l u hu.course.tracking).acts (by simp) (by simp)
        (hu.load ▸ firePhase_stays hu.course e l))
  exact hfires allLanes _ htriggers

/-- An advance keeps the guard, once it holds with the pocket that the advance brings to the load station. -/
theorem Guarded.advance {s t : State} {k : PocketNo} (h : Guarded s k (markOn t)) (e : Option Travel) :
    Guarded s k (advance e t) := by
  rw [advance_eq, phaseEvent_eq]
  split
  · exact (h.pitchEvent.loadSample).afterLoad e
  · exact h.loadSample.afterLoad e

theorem Guarded.markOn {s t : State} {k : PocketNo} (h : Guarded s k t) (hload : pocketAt (markOn t) 0 = k) :
    Guarded s k (markOn t) where
  course := h.course.motions (markOn_acts t).motions h.course.tracking
  load := hload
  kept := h.kept.acts (markOn_acts t)
  held := h.held

/-- The positions of a forward re-alignment, while one pocket stays at the load station. -/
theorem Guarded.span {s u : State} {k : PocketNo} {e : Travel} {n : Nat} (h : Guarded s k u)
    (hload : ∀ i < n, pocketAt (Machine.markOn (spanState e u i)) 0 = k) : Guarded s k (spanState e u n) := by
  induction n with
  | zero => exact h
  | succ n ih =>
    have hbefore := ih fun i hi => hload i (by omega)
    have hadvanced := (hbefore.markOn (hload n (by omega))).advance (some e)
    rw [spanState_succ, ← advance_eq_markEvents]
    exact hadvanced.acts (takeTravelPoints_acts _) (by simp) (by simp) (takeTravelPoints_stays k _)

end Sys2Proof.Machine
end

section
/-!
PROOF. The span of a forward re-alignment lies within one pocket's pitch (R188's fifth relation), and O59.
-/

namespace Sys2Proof.Machine

/-! ## The span of a forward re-alignment -/

/-- The index distance is a residue of the capture's distance from the index offset. -/
theorem indexDelta_mod {c capture offset : Nat} (ho : offset < c) :
    ((capture : Int) - offset - indexDelta c capture offset) % c = 0 := by
  have hd := Nat.div_add_mod (capture + c - offset) c
  refine Int.emod_eq_zero_of_dvd ?_
  unfold indexDelta
  dsimp only
  generalize (capture + c - offset) / c = q at hd
  generalize (capture + c - offset) % c = d at hd
  have hcast : ((c * q : Nat) : Int) = c * q := Nat.cast_mul c q
  generalize c * q = m at hd hcast
  split
  · exact ⟨q, by omega⟩
  · refine ⟨q - 1, ?_⟩
    rw [Int.mul_sub]
    omega

/-- A position at most the index phase short of the index offset stands on the same pocket. -/
theorem div_sub_of_le_mod {a b j : Nat} (hj : j ≤ a % b) : (a - j) / b = a / b := by
  rcases Nat.eq_zero_or_pos b with rfl | hb
  · simp
  · have hdiv := Nat.div_add_mod a b
    have hlt := Nat.mod_lt a hb
    have hcomm : a / b * b = b * (a / b) := Nat.mul_comm ..
    have hsucc : (a / b + 1) * b = b * (a / b) + b := by rw [Nat.succ_mul, hcomm]
    exact Nat.div_eq_of_lt_le (by omega) (by omega)

/-- A mark that comes to the index offset without passing position 0 stands that far short of it. -/
theorem mark_before_index {c base n offset : Nat} (hbase : base < c) (ho : offset < c) (hn : n ≤ offset)
    (h : (base + n) % c = offset) : base + n = offset := by
  by_cases hlt : base + n < c
  · rwa [Nat.mod_eq_of_lt hlt] at h
  · rw [Nat.mod_eq_sub_mod (Nat.not_lt.mp hlt), Nat.mod_eq_of_lt (by omega)] at h
    omega

theorem pocketAt_of_pos {s : State} {x : Nat} (hlag : s.trk.lag = 0) (hpos : s.trk.pos = x) (hx : x < s.geo.c) :
    pocketAt s 0 = pocketFrom s.geo (x / pitch s.geo) 0 := by
  rw [pocketAt, loadPocket, markPos, hlag, hpos, Nat.add_zero, Nat.mod_eq_of_lt hx]

theorem spanState_pos (e : Travel) {u : State} (hpos : u.trk.pos < u.geo.c) (i : Nat) :
    (spanState e u i).geo = u.geo ∧ (spanState e u i).trk.pos = (u.trk.pos + i) % u.geo.c ∧
      (spanState e u i).trk.lag = u.trk.lag := by
  obtain ⟨hgeo, -⟩ := spanState_trk e u i
  cases i with
  | zero => exact ⟨hgeo, (Nat.mod_eq_of_lt hpos).symm, rfl⟩
  | succ i => rw [(spanState_trk e u i).2]; exact ⟨hgeo, rfl, rfl⟩

/-- A span that ends at the index offset within its phase keeps one pocket at the load station. -/
theorem guarded_realigned {s u : State} {e : Travel} {n : Nat} (hc : OnCourse u) (hkept : VerdictsKept s u)
    (hstays : u.mask.masked = false → ∀ k, Stays k s u) (hlag : u.trk.lag = 0) (ho : u.geo.indexOffset < u.geo.c)
    (hn : n ≤ u.geo.indexOffset % pitch u.geo) (hend : u.trk.pos + n = u.geo.indexOffset) :
    Guarded s (pocketFrom u.geo (u.geo.indexOffset / pitch u.geo) 0) (spanState e u n) := by
  have hplace (i : Nat) (hi : i ≤ n) : (u.trk.pos + i) / pitch u.geo = u.geo.indexOffset / pitch u.geo := by
    rw [← div_sub_of_le_mod (j := n - i) (a := u.geo.indexOffset) (by omega)]
    congr 1
    omega
  have hpos : u.trk.pos < u.geo.c := by omega
  have hstart : pocketAt u 0 = pocketFrom u.geo (u.geo.indexOffset / pitch u.geo) 0 := by
    rw [pocketAt_of_pos hlag rfl hpos, ← hplace 0 (Nat.zero_le n), Nat.add_zero]
  refine Guarded.span ⟨hc, hstart, hkept, fun hm => (hstays hm _).free⟩ fun i hi => ?_
  obtain ⟨hgeo, hat, hlag'⟩ := spanState_pos e hpos i
  have hnext : (markOn (spanState e u i)).trk.pos = u.trk.pos + (i + 1) := by
    have : (markOn (spanState e u i)).trk.pos = ((spanState e u i).trk.pos + 1) % (spanState e u i).geo.c := rfl
    rw [this, hat, hgeo, Nat.mod_add_mod, Nat.add_assoc, Nat.mod_eq_of_lt (by omega)]
  have hgeo' : (markOn (spanState e u i)).geo = u.geo := hgeo
  rw [pocketAt_of_pos (s := markOn (spanState e u i)) (hlag'.trans hlag) hnext (by rw [hgeo']; omega), hgeo', hplace (i + 1) hi]

/-! ## The motion commands -/

theorem realignForward_kept {s u : State} {n : Nat} (hrel : RunsWithinRelations u) (hrange : PositionInRange u)
    (ht : u.trk.st = .tracking) (hkept : VerdictsKept s u) (hstays : u.mask.masked = false → ∀ k, Stays k s u)
    (hn : n ≤ u.geo.ti)
    (hend : u.trk.lag < n → ((u.trk.pos + u.trk.lag) % u.geo.c + (n - u.trk.lag)) % u.geo.c = u.geo.indexOffset) :
    VerdictsKept s (realignForward n u) := by
  obtain ⟨⟨-, hpn⟩, ⟨hc, -⟩, ho, -⟩ := hrange
  by_cases hlag : n ≤ u.trk.lag
  · rw [realignForward, if_pos hlag]
    refine VerdictsKept.acts (hkept.of_ring ?_) (indexCounts_acts ..)
    rfl
  · have hti : u.geo.ti ≤ u.geo.indexOffset % pitch u.geo := (hrel (by simp [ht]) 5 (by decide) (by decide)).1
    have hle := Nat.mod_le u.geo.indexOffset (pitch u.geo)
    have hmark := mark_before_index (Nat.mod_lt _ (by omega)) ho (by omega) (hend (by omega))
    rw [realignForward_advances (Nat.not_le.mp hlag)]
    refine VerdictsKept.acts (Guarded.kept (k := pocketFrom u.geo (u.geo.indexOffset / pitch u.geo) 0) ?_)
      (indexCounts_acts ..)
    exact guarded_realigned (u := u.setTrk { u.trk with pos := markPos u, lag := 0 })
      ⟨ht, hpn, hrel (by simp [ht])⟩ (hkept.of_ring rfl) (fun hm k => (hstays hm k).trans (.of_ring rfl)) rfl ho
      (show n - u.trk.lag ≤ u.geo.indexOffset % pitch u.geo by omega) hmark

theorem indexTracking_kept {s u : State} (hrel : RunsWithinRelations u) (hrange : PositionInRange u)
    (ht : u.trk.st = .tracking) (hkept : VerdictsKept s u) (hstays : u.mask.masked = false → ∀ k, Stays k s u) :
    VerdictsKept s (indexTracking u) := by
  have hcaptured : VerdictsKept s (u.setTrk { u.trk with capture := u.trk.pos }) := hkept.of_ring rfl
  unfold indexTracking
  dsimp only
  split
  · next hnear =>
    split
    · exact hcaptured.acts (realignBack_acts ..)
    · next hloss =>
      refine realignForward_kept (u := u.setTrk { u.trk with capture := u.trk.pos }) hrel hrange ht hcaptured
        (fun hm k => (hstays hm k).trans (.of_ring rfl)) hnear fun hlag => ?_
      exact realigned_pos hrange.2.2.1 (not_le.mp hloss) hlag (indexDelta_mod hrange.2.2.1)
  · refine VerdictsKept.acts (hcaptured.of_ring ?_) (slip_acts ..)
    rfl

theorem advance_kept {s u : State} (hc : OnCourse u) (hkept : VerdictsKept s u)
    (hstays : u.mask.masked = false → ∀ k, Stays k s u) (e : Option Travel) : VerdictsKept s (advance e u) := by
  have hmoved : Guarded s (pocketAt (markOn u) 0) (markOn u) :=
    ⟨hc.motions (markOn_acts u).motions hc.tracking, rfl, hkept.acts (markOn_acts u), fun hm => (hstays hm _).free⟩
  exact (hmoved.advance e).kept

theorem encoderChange_kept {a b : Bool} {s u : State} (hrel : RunsWithinRelations u) (hrange : PositionInRange u)
    (hkept : VerdictsKept s u) (hstays : u.mask.masked = false → ∀ k, Stays k s u) :
    VerdictsKept s (encoderChange a b u) := by
  have hquad : VerdictsKept s (u.setTrk { u.trk with quadA := a, quadB := b }) := hkept.of_ring rfl
  unfold encoderChange
  dsimp only
  split
  · exact hquad
  · split
    · next ht =>
      have hst : u.trk.st = .tracking := by simpa [isTracking] using ht
      unfold forwardTracking
      split
      · exact hquad.of_ring rfl
      · exact advance_kept (u := u.setTrk { u.trk with quadA := a, quadB := b })
          ⟨hst, hrange.1.2, hrel (by simp [hst])⟩ hquad (fun hm k => (hstays hm k).trans (.of_ring rfl)) none
    · exact hquad.of_ring rfl
  · split
    · exact hquad.acts (backwardTracking_acts _)
    · exact hquad.of_ring rfl

/-- PPS is sampled with no record freed. -/
theorem seePps_stays {pps : Bool} {k : PocketNo} {s u : State} (h : u.mask.masked = false → Stays k s u)
    (hm : (seePps pps u).mask.masked = false) : Stays k s (seePps pps u) := (h hm).trans (.of_ring rfl)

/-- Within the relations of a run no motion frees a record and loads its pocket anew. -/
theorem motion_kept {c : Instr} {s t : State} (hm : isMotion c = true) (h : exec c s = .next t)
    (hrel : RunsWithinRelations s) (hplaced : Placed s) : VerdictsKept s t := by
  have hacts (pps : Bool) : Acts s (seePps pps (settled s)) := (settled_acts s).tail (LinkAct.pins _ _).act
  have hkept (pps : Bool) : VerdictsKept s (seePps pps (settled s)) := (VerdictsKept.refl s).acts (hacts pps)
  have hrel' (pps : Bool) : RunsWithinRelations (seePps pps (settled s)) :=
    (hacts pps).keeps relations_turretInvariant.stepInvariant.act hrel
  have hrange (pps : Bool) : PositionInRange (seePps pps (settled s)) :=
    ((hacts pps).keeps placed_turretInvariant.stepInvariant.act hplaced).1
  have hstays (pps : Bool) (hmask : (seePps pps (settled s)).mask.masked = false) (k : PocketNo) :
      Stays k s (seePps pps (settled s)) := seePps_stays (settled_stays k s) hmask
  cases c with
  | encoderCount a b pps =>
    obtain rfl := Host.Outcome.next.inj h
    exact encoderChange_kept (hrel' pps) (hrange pps) (hkept pps) (hstays pps)
  | indexEvent pps =>
    obtain rfl := Host.Outcome.next.inj h
    split
    · exact hkept pps
    · exact (hkept pps).of_ring (home_keeps _).1
    · next ht => exact indexTracking_kept (hrel' pps) (hrange pps) ht (hkept pps) (hstays pps)
  | _ => simp [isMotion] at hm

/-- Settles O59: only a load could put another record where a verdict stood, and no command frees a pocket and loads it. -/
theorem verdictKept : Obligations.VerdictKept := by
  unfold Obligations.VerdictKept
  intro c s t k p q v h hmotion
  suffices hkept : VerdictsKept s t from fun hp hv hq => hkept k p q v hp hq hv
  cases hm : isMotion c with
  | true =>
    have hkind : (∃ a b x, c = .encoderCount a b x) ∨ ∃ x, c = .indexEvent x := by
      cases c with
      | encoderCount a b pps => exact .inl ⟨a, b, pps, rfl⟩
      | indexEvent pps => exact .inr ⟨pps, rfl⟩
      | _ => simp [isMotion] at hm
    obtain hpause | ⟨hrel, hrange, hplace⟩ := hmotion hkind
    · exact (exec_motions hm h).verdictsKept_of_pause hpause
    · exact motion_kept hm h hrel ⟨hrange, hplace⟩
  | false =>
    cases hr : isFullReset c with
    | false => exact (exec_ran hm hr h).verdictsKept
    | true =>
      cases c with
      | fullReset a b m =>
        obtain rfl := Host.Outcome.next.inj h
        exact .of_empty fun k => by simp [fullReset, State.atRelease]
      | _ => simp [isFullReset] at hr

end Sys2Proof.Machine
end
